-- ==== Sys2Proof/Word.lean ====
section
/-! DEFINITION. The widths of the block: byte-wide registers, a 16-bit bus word, 32-bit engine counters. -/

namespace Sys2Proof

/-- Every register and every stream element is one byte (20_memory.md R41, 92_eei_decisions.md D2). -/
abbrev Byte := BitVec 8

/-- A register-bus command word (30_encoding.md R69); also `expected_response_length` and `rcvd`. -/
abbrev Half := BitVec 16

/-- `bitrate` and `tocnt` (10_state.md R11). -/
abbrev Word := BitVec 32

end Sys2Proof
end

