-- ==== Sys2Proof/Syntax.lean ====
section
/-! DEFINITION. The operations of the block, one constructor per row of spec/opcode_table.json, their operands, and the form in which they are presented (30_encoding.md R60 to R73). -/

namespace Sys2Proof

/-- The ten controller registers, in the order of their numbers (30_encoding.md R61). -/
inductive Reg where
  | control | status1 | status2 | error | wrData | rdData | btLow | btHigh | intEn1 | intEn2
  deriving DecidableEq, Repr

/-- A request, the operand of TRANSFER and the contents of the latch `REQ` (10_state.md R14). -/
structure Request where
  targetAddress : Byte
  commandCode : Byte
  writePayload : List Byte
  expectedLength : Half
  deriving DecidableEq, Repr, Inhabited

/-- A response, the contents of the buffer `RSP` (10_state.md R16). -/
structure Response where
  bytes : List Byte
  writeChecksum : Byte
  readChecksum : Byte
  deriving DecidableEq, Repr, Inhabited

/-- The operations: twenty of family REG, four of HOST, nine of MICRO. -/
inductive Instr where
  -- family REG (40_register_ops.md R80 to R99)
  | rdControl
  | wrControl (v : Byte)
  | rdStatus1
  | wrStatus1 (v : Byte)
  | rdStatus2
  | wrStatus2 (v : Byte)
  | rdError
  | wrError (v : Byte)
  | rdWrData
  | wrWrData (b : Byte)
  | rdRdData
  | wrRdData (v : Byte)
  | rdBtLow
  | wrBtLow (v : Byte)
  | rdBtHigh
  | wrBtHigh (v : Byte)
  | rdIntEn1
  | wrIntEn1 (v : Byte)
  | rdIntEn2
  | wrIntEn2 (v : Byte)
  -- family HOST (41_config.md R110, 47_public_ops.md R190 to R192)
  | configure (bitrate : Word)
  | enable
  | disable
  | transfer (req : Request)
  -- family MICRO (30_encoding.md R73); their operands come from the state (log 8)
  | waitIdle
  | write
  | waitPoll
  | waitEvent
  | read
  | finish
  | recoverFifo
  | recoverFull
  | irqHandler
  deriving DecidableEq, Repr

/-- One presentation of an operation: a word on the register bus (30_encoding.md R69), bytes at the command port (R70), or an internal identifier (R73). -/
inductive Issue where
  | bus (w : Half)
  | cmd (bytes : List Byte)
  | micro (id : Byte)
  deriving DecidableEq, Repr

end Sys2Proof
end

