-- ==== Sys2Proof/Config.lean ====
section
/-! DEFINITION. The implementation parameters of 00_scope.md R6, carried in the state as plain data that no step writes (log 3), and the free values (log 6, log 7). -/

namespace Sys2Proof

/-- The completion strategy, fixed for the life of the instance (44_completion_waiter.md R144). -/
inductive Mode where
  | polled | event
  deriving DecidableEq, Repr

/-- `ERR_CODE`, the numeric code of each result kind (30_encoding.md R71). -/
structure ErrCodes where
  ok : Byte
  busBusy : Byte
  fifoFull : Byte
  timeout : Byte
  ioError : Byte
  deriving DecidableEq, Repr

/-- `LAYOUT`: the register numbers, 0 to 9, and the bit positions of the named fields (00_scope.md R6, 30_encoding.md R61, 92_eei_decisions.md D1). A layout is a renaming, so no two registers share a number and no two fields of one register share a bit; each value carries the proof of that (log 12). -/
structure Layout where
  control : Fin 10
  status1 : Fin 10
  status2 : Fin 10
  error : Fin 10
  wrData : Fin 10
  rdData : Fin 10
  btLow : Fin 10
  btHigh : Fin 10
  intEn1 : Fin 10
  intEn2 : Fin 10
  pd : Fin 8
  rst : Fin 8
  frst : Fin 8
  txen : Fin 8
  eof : Fin 8
  idle : Fin 8
  wff : Fin 8
  wfe : Fin 8
  rff : Fin 8
  rfe : Fin 8
  rbor : Fin 8
  wbur : Fin 8
  berr : Fin 8
  numbersDistinct :
    [control, status1, status2, error, wrData, rdData, btLow, btHigh, intEn1, intEn2].Nodup
  controlDistinct : [pd, rst, frst, txen].Nodup
  status2Distinct : [idle, wff, wfe, rff, rfe].Nodup
  errorDistinct : [rbor, wbur, berr].Nodup
  deriving DecidableEq, Repr

/-- The parameters of 00_scope.md R6. `REG_WIDTH` is 8 (Word.lean); `HEADER_LEN` and `FCS_LEN` are constants below. -/
structure Params where
  mode : Mode
  timeoutThreshold : Nat
  idleAttempts : Nat
  idlePollUs : Nat
  txPollAttempts : Nat
  txPollUs : Nat
  rxPollAttempts : Nat
  rxPollUs : Nat
  settleUs : Nat
  resetSleepMs : Nat
  resetBusyUs : Nat
  eventUnit : Nat
  maxCoreClock : Nat
  btHighMask : Byte
  pingCmd : Byte
  maxPayload : Nat
  wfifoDepth : Nat
  rfifoDepth : Nat
  layout : Layout
  regBase : Nat
  regStride : Nat
  txlenIncludesCmd : Bool
  postOnRff : Bool
  rstClearsStatus : Bool
  errCode : ErrCodes
  deriving DecidableEq, Repr

/-- `HEADER_LEN`: "a 3-byte header" (00_scope.md R6). -/
def headerLen : Nat := 3

/-- `FCS_LEN`: "2 frame-check bytes" (00_scope.md R6). -/
def fcsLen : Nat := 2

/-- The default codes of 30_encoding.md R71. -/
def ErrCodes.default : ErrCodes :=
  { ok := 0x00, busBusy := 0x01, fifoFull := 0x02, timeout := 0x03, ioError := 0x04 }

/-- The default layout: the register numbers of 30_encoding.md R61, the bit positions of R62. -/
def Layout.default : Layout :=
  { control := 0, status1 := 1, status2 := 2, error := 3, wrData := 4, rdData := 5,
    btLow := 6, btHigh := 7, intEn1 := 8, intEn2 := 9,
    pd := 0, rst := 1, frst := 2, txen := 3, eof := 0,
    idle := 0, wff := 1, wfe := 2, rff := 3, rfe := 4, rbor := 0, wbur := 1, berr := 2,
    numbersDistinct := by decide, controlDistinct := by decide, status2Distinct := by decide,
    errorDistinct := by decide }

/-- The defaults of 00_scope.md R6. DESIGN CHOICE (log 3): MODE is POLLED, and every parameter that R6 leaves open is 0, the stride 1. -/
def Params.default : Params :=
  { mode := .polled, timeoutThreshold := 3,
    idleAttempts := 50, idlePollUs := 100, txPollAttempts := 100, txPollUs := 10,
    rxPollAttempts := 100, rxPollUs := 10, settleUs := 0, resetSleepMs := 0, resetBusyUs := 0,
    eventUnit := 1, maxCoreClock := 24000, btHighMask := 0xFF, pingCmd := 0x00, maxPayload := 255,
    wfifoDepth := 32, rfifoDepth := 32, layout := Layout.default, regBase := 0, regStride := 1,
    txlenIncludesCmd := false, postOnRff := false, rstClearsStatus := true,
    errCode := ErrCodes.default }

/-- The bounds the rules put on the parameters, and no other: at least one attempt in each poll loop (42_idle_detector.md R120, 44_completion_waiter.md R141, 45_reader.md R156), FIFO depths of at least 1 (92_eei_decisions.md D4), and the payload bound of 10_state.md R15 and 30_encoding.md R65. `EVENT_UNIT` may be any number, 0 included. -/
def Params.ok (p : Params) : Bool :=
  decide (1 ≤ p.idleAttempts) && decide (1 ≤ p.txPollAttempts) && decide (1 ≤ p.rxPollAttempts)
    && decide (1 ≤ p.wfifoDepth) && decide (1 ≤ p.rfifoDepth)
    && decide (p.maxPayload ≤ if p.txlenIncludesCmd then 254 else 255)

/-- The draws of 00_scope.md R7 that a register access answers with: nothing is known of them (log 6). The state counts how many were used. -/
opaque Config.freeByte : Nat → Byte

/-- The contents of `RSP` after an operation that returned `Err`: unspecified (10_state.md R16, log 7). -/
opaque Config.freeResponse : Nat → Response

end Sys2Proof
end

