-- ==== Sys2Proof/WellFormed.lean ====
section
/-! DEFINITION. Which operations have an encoding. Whether an encodable operation is admitted (a valid bitrate, a request that fits a frame) is a matter of its meaning (Machine/Operands.lean). -/

namespace Sys2Proof

/-- The count byte of a TRANSFER states at most 255 payload bytes (30_encoding.md R70). -/
def Request.encodable (r : Request) : Bool :=
  decide (r.writePayload.length ≤ 255)

/-- An operation is well-formed when it has an encoding: every operation but a TRANSFER whose payload its count byte cannot state. -/
def Instr.wellFormed : Instr → Bool
  | .transfer req => req.encodable
  | _ => true

end Sys2Proof
end

