-- ==== Sys2Proof/Decode.lean ====
section
/-! DEFINITION. The decoder of the three ports, total on any words and bytes, and after it the encoder written from the same tables, both for any layout of the registers (30_encoding.md R61, R69, R70, R72, R73). -/

namespace Sys2Proof

/-- The register number under a layout (30_encoding.md R61). -/
def Reg.number (l : Layout) : Reg → Nat
  | .control => l.control
  | .status1 => l.status1
  | .status2 => l.status2
  | .error => l.error
  | .wrData => l.wrData
  | .rdData => l.rdData
  | .btLow => l.btLow
  | .btHigh => l.btHigh
  | .intEn1 => l.intEn1
  | .intEn2 => l.intEn2

/-- The ten registers. -/
def Reg.all : List Reg :=
  [.control, .status1, .status2, .error, .wrData, .rdData, .btLow, .btHigh, .intEn1, .intEn2]

/-- The register of a register number under a layout; a number outside 0 to 9 names none (20_memory.md R43). -/
def regOfNumber (l : Layout) (n : Nat) : Option Reg := Reg.all.find? fun r => r.number l == n

/-- The read operation of a register. -/
def Reg.readInstr : Reg → Instr
  | .control => .rdControl
  | .status1 => .rdStatus1
  | .status2 => .rdStatus2
  | .error => .rdError
  | .wrData => .rdWrData
  | .rdData => .rdRdData
  | .btLow => .rdBtLow
  | .btHigh => .rdBtHigh
  | .intEn1 => .rdIntEn1
  | .intEn2 => .rdIntEn2

/-- The write operation of a register. -/
def Reg.writeInstr (v : Byte) : Reg → Instr
  | .control => .wrControl v
  | .status1 => .wrStatus1 v
  | .status2 => .wrStatus2 v
  | .error => .wrError v
  | .wrData => .wrWrData v
  | .rdData => .wrRdData v
  | .btLow => .wrBtLow v
  | .btHigh => .wrBtHigh v
  | .intEn1 => .wrIntEn1 v
  | .intEn2 => .wrIntEn2 v

/-- Bit 15 of a bus word: 1 write, 0 read (30_encoding.md R69). -/
def busIsWrite (w : Half) : Bool := w.getLsbD 15

/-- Bits 14:12 of a bus word, which must be 0. -/
def busZeroField (w : Half) : BitVec 3 := w.extractLsb' 12 3

/-- Bits 11:8 of a bus word, the register number. -/
def busNumber (w : Half) : Nat := (w.extractLsb' 8 4).toNat

/-- Bits 7:0 of a bus word, the data byte of a write, ignored in a read. -/
def busData (w : Half) : Byte := w.extractLsb' 0 8

/-- A word of the register bus (30_encoding.md R69): a nonzero field 14:12 or a number that names no register encodes nothing. -/
def decodeBus (l : Layout) (w : Half) : Option Instr :=
  if busZeroField w = 0 then
    match regOfNumber l (busNumber w) with
    | some r => some (if busIsWrite w then r.writeInstr (busData w) else r.readInstr)
    | none => none
  else none

/-- Two bytes, least significant first. -/
def half (lo hi : Byte) : Half := hi ++ lo

/-- Four bytes, least significant first. -/
def word (b0 b1 b2 b3 : Byte) : Word := b3 ++ b2 ++ b1 ++ b0

/-- The command port (30_encoding.md R70): the operation and the bytes after it. A first byte that is no operation code, and a command whose operand bytes are missing, decode to nothing (R72, log 16). -/
def decodeCommand : List Byte → Option (Instr × List Byte)
  | [] => none
  | op :: rest =>
    if op = 0x01 then
      match rest with
      | b0 :: b1 :: b2 :: b3 :: tail => some (.configure (word b0 b1 b2 b3), tail)
      | _ => none
    else if op = 0x02 then some (.enable, rest)
    else if op = 0x03 then some (.disable, rest)
    else if op = 0x04 then
      match rest with
      | a :: c :: lo :: hi :: m :: tail =>
        if m.toNat ≤ tail.length then
          some (.transfer { targetAddress := a, commandCode := c,
                            writePayload := tail.take m.toNat, expectedLength := half lo hi },
                tail.drop m.toNat)
        else none
      | _ => none
    else none

/-- The identifiers of the internal operations (30_encoding.md R73). -/
def decodeMicro (id : Byte) : Option Instr :=
  if id = 0x10 then some .waitIdle
  else if id = 0x11 then some .write
  else if id = 0x12 then some .waitPoll
  else if id = 0x13 then some .waitEvent
  else if id = 0x14 then some .read
  else if id = 0x15 then some .finish
  else if id = 0x16 then some .recoverFifo
  else if id = 0x17 then some .recoverFull
  else if id = 0x18 then some .irqHandler
  else none

/-- The operation an issue presents. Bytes that follow a complete command at the command port are issued while it runs, so they are refused and change nothing (47_public_ops.md R194, log 16). -/
def decodeIssue (l : Layout) : Issue → Option Instr
  | .bus w => decodeBus l w
  | .cmd bytes => (decodeCommand bytes).map fun p => p.1
  | .micro id => decodeMicro id

/-! The encoder. -/

/-- The bus word `W 000 nnnn dddddddd` (30_encoding.md R69). -/
def encodeBus (l : Layout) (isWrite : Bool) (r : Reg) (v : Byte) : Half :=
  (BitVec.ofBool isWrite) ++ (0 : BitVec 3) ++ (BitVec.ofNat 4 (r.number l)) ++ v

/-- The bytes of `CONFIGURE` (30_encoding.md R70). -/
def encodeConfigure (br : Word) : List Byte :=
  [0x01, br.extractLsb' 0 8, br.extractLsb' 8 8, br.extractLsb' 16 8, br.extractLsb' 24 8]

/-- The bytes of `TRANSFER` (30_encoding.md R70). -/
def encodeTransfer (r : Request) : List Byte :=
  [0x04, r.targetAddress, r.commandCode, r.expectedLength.extractLsb' 0 8,
    r.expectedLength.extractLsb' 8 8, BitVec.ofNat 8 r.writePayload.length] ++ r.writePayload

/-- The words of an operation, in the port its format names. -/
def encode (l : Layout) : Instr → Issue
  | .rdControl => .bus (encodeBus l false .control 0)
  | .wrControl v => .bus (encodeBus l true .control v)
  | .rdStatus1 => .bus (encodeBus l false .status1 0)
  | .wrStatus1 v => .bus (encodeBus l true .status1 v)
  | .rdStatus2 => .bus (encodeBus l false .status2 0)
  | .wrStatus2 v => .bus (encodeBus l true .status2 v)
  | .rdError => .bus (encodeBus l false .error 0)
  | .wrError v => .bus (encodeBus l true .error v)
  | .rdWrData => .bus (encodeBus l false .wrData 0)
  | .wrWrData b => .bus (encodeBus l true .wrData b)
  | .rdRdData => .bus (encodeBus l false .rdData 0)
  | .wrRdData v => .bus (encodeBus l true .rdData v)
  | .rdBtLow => .bus (encodeBus l false .btLow 0)
  | .wrBtLow v => .bus (encodeBus l true .btLow v)
  | .rdBtHigh => .bus (encodeBus l false .btHigh 0)
  | .wrBtHigh v => .bus (encodeBus l true .btHigh v)
  | .rdIntEn1 => .bus (encodeBus l false .intEn1 0)
  | .wrIntEn1 v => .bus (encodeBus l true .intEn1 v)
  | .rdIntEn2 => .bus (encodeBus l false .intEn2 0)
  | .wrIntEn2 v => .bus (encodeBus l true .intEn2 v)
  | .configure br => .cmd (encodeConfigure br)
  | .enable => .cmd [0x02]
  | .disable => .cmd [0x03]
  | .transfer req => .cmd (encodeTransfer req)
  | .waitIdle => .micro 0x10
  | .write => .micro 0x11
  | .waitPoll => .micro 0x12
  | .waitEvent => .micro 0x13
  | .read => .micro 0x14
  | .finish => .micro 0x15
  | .recoverFifo => .micro 0x16
  | .recoverFull => .micro 0x17
  | .irqHandler => .micro 0x18

/-! The opcode table's words, numbered as the table numbers them. -/

/-- The first `k` bytes of a number, least significant first. -/
def leBytes : Nat → Nat → List Byte
  | 0, _ => []
  | k + 1, w => BitVec.ofNat 8 w :: leBytes k (w / 256)

/-- The bytes of a table word with operand bytes of zero after them, as many as the longest command with that count byte (byte 5) can need. -/
def tableBytes (nbits w : Nat) : List Byte :=
  leBytes (nbits / 8) w ++ List.replicate (5 + w / 2 ^ 40 % 256) 0

/-- The issue a table row's word stands for: 16 bits are a bus word; a row in bytes is a command of the port if its first byte is an operation code there, else an internal identifier. Exactly the operation's own bytes are presented. -/
def issueOfTable (nbits w : Nat) : Issue :=
  if nbits = 16 then .bus (BitVec.ofNat 16 w)
  else
    match decodeCommand (tableBytes nbits w) with
    | some (_, rest) =>
      .cmd ((tableBytes nbits w).take ((tableBytes nbits w).length - rest.length))
    | none => .micro (BitVec.ofNat 8 w)

/-- The operation the decoder reads from a row's word; the table's register numbers are those of the default layout (30_encoding.md R69). -/
def decodeTableWord (nbits w : Nat) : Option Instr :=
  decodeIssue Layout.default (issueOfTable nbits w)

end Sys2Proof
end

