-- ==== Sys2Proof/Machine/State.lean ====
section
/-! DEFINITION. The state of the block as plain data, grouped by owner (10_state.md R10), its faults and refusals, and the state after power-on reset (R34). -/

namespace Sys2Proof.Machine

/-- Who makes a register access: the engine, the handler, or the owner of the block through the bus (00_scope.md R4, 70_reset_and_hazards.md R262). -/
inductive Agent where
  | eng | isr | host
  deriving DecidableEq, Repr

/-- The four error kinds (60_exceptions.md R230). -/
inductive ErrKind where
  | busBusy | fifoFull | timeout | ioError
  deriving DecidableEq, Repr

/-- The result register `RES` (10_state.md R17). -/
inductive Result where
  | ok
  | err (k : ErrKind)
  deriving DecidableEq, Repr

/-- The operations that have step labels in `phase`; the letter of each label is the operation's (00_scope.md, glossary, "step label"). -/
inductive EngOp where
  | configure | waitIdle | write | waitPoll | waitEvent | read | finish | recover | transfer | enable
  | disable
  deriving DecidableEq, Repr

/-- The step labels of the engine's pseudocode, C0 to C7, I0 to I6, W1 to W7, P0 to P6, E0 to E2, D0 to D9, F0 to F7, V0 to V5, T0 to T5, N0 to N2, B0 to B3 (00_scope.md, glossary). A label names its operation too. -/
inductive Label where
  | c0 | c1 | c2 | c3 | c4 | c5 | c6 | c7
  | i0 | i1 | i2 | i3 | i4 | i5 | i6
  | w1 | w2 | w3 | w4 | w5 | w6 | w7
  | p0 | p1 | p2 | p3 | p4 | p5 | p6
  | e0 | e1 | e2
  | d0 | d1 | d2 | d3 | d4 | d5 | d6 | d7 | d8 | d9
  | f0 | f1 | f2 | f3 | f4 | f5 | f6 | f7
  | v0 | v1 | v2 | v3 | v4 | v5
  | t0 | t1 | t2 | t3 | t4 | t5
  | n0 | n1 | n2
  | b0 | b1 | b2 | b3
  deriving DecidableEq, Repr

/-- The phase register: `IDLE`, or the step label the engine stands at, which names the operation and the place in it (10_state.md R19). -/
inductive Phase where
  | idle
  | at (l : Label)
  deriving DecidableEq, Repr

/-- The places at which one operation calls another, named by the calling step (10_state.md R19: "a call of a sub-operation and its return"). W7 has two: the completion wait and the recovery. -/
inductive CallSite where
  | w5 | w7Wait | w7Recover | d8 | b0 | t2 | t3 | t4 | f6 | v5
  deriving DecidableEq, Repr

/-- The handler's own place: the step it takes next; `h0` is a handler that is not running (44_completion_waiter.md R143). -/
inductive HandlerStep where
  | h0 | h1 | h2 | h3 | h4 | h5
  deriving DecidableEq, Repr

/-- The hidden frame record (10_state.md R30). -/
structure Frame where
  active : Bool
  eofDone : Bool
  deriving DecidableEq, Repr

/-- The classes of error bits (46_finish_recover.md R171). -/
inductive ErrorClass where
  | rbor | wbur | berr
  deriving DecidableEq, Repr

/-- The diagnostic records (10_state.md R33). -/
inductive LogRecord where
  | errorClass (c : ErrorClass)
  | lengthMismatch (rcvd expected : Half)
  deriving DecidableEq, Repr

/-- What an observer of the block's boundary sees, one record an event: register accesses with their value, delays, the wire (20_memory.md R40), the log (10_state.md R33). -/
inductive Event where
  | rd (who : Agent) (r : Reg) (v : Byte)
  | wr (who : Agent) (r : Reg) (v : Byte)
  | delayUs (n : Nat)
  | sleepMs (n : Nat)
  | log (x : LogRecord)
  | wireTx (b : Byte)
  | wireRx (b : Byte)
  deriving DecidableEq, Repr

/-- One entry of the agents' turn order (00_scope.md R4, R5). `eng` is the engine's turn; `expire` is the engine's choice to let the event wait run out (44_completion_waiter.md R142); the others are one atomic step of CTL or ENV (48_controller_agent.md R206 to R212, 41_config.md R113), of ISR (R143), or an operation that HOST presents (47_public_ops.md R194), or a register word that the platform presents (70_reset_and_hazards.md R262). -/
inductive Turn where
  | eng
  | expire
  | ctlStart
  | ctlTx
  | ctlUnderrun
  | ctlEof
  | ctlEnd
  | ctlRx (b : Byte)
  | ctlErr (m : Byte)
  | envBus (v : Bool)
  | envErr (m : Byte)
  | isr
  | host (bytes : List Byte)
  | platform (w : Half)
  deriving DecidableEq, Repr

/-- What ENG owns: the controller-state record without the signal (10_state.md R11), the latches `REQ`, `RSP`, `RES` (R14 to R17), the working registers (R18) and `phase` (R19). `calls` are the calls under way, innermost first, and `newBitrate` is the operand of the CONFIGURE under way: state that R19 implies (log 17). -/
structure Engine where
  bitrate : Word
  tocnt : Word
  req : Request
  rsp : Response
  res : Result
  phase : Phase
  calls : List CallSite
  newBitrate : Word
  n : Nat
  i : Nat
  j : Byte
  rcvd : Half
  s : Byte
  c : Byte
  e : Byte
  b : Byte
  div : Nat
  wfcs : Byte
  rfcs : Byte
  deriving DecidableEq, Repr

/-- What CTL owns: the registers (10_state.md R21 to R28), the FIFOs, the frame record (R30). Reserved bits are not stored: they read 0 and ignore writes (30_encoding.md R63). `invalidated` says that the bit timing was written under the frame in progress (41_config.md R113, 40_register_ops.md R93). -/
structure Controller where
  pd : Bool
  rst : Bool
  frst : Bool
  txen : Bool
  eof : Bool
  error : Byte
  wfifo : List Byte
  rfifo : List Byte
  btLow : Byte
  btHigh : Byte
  intEn1 : Byte
  intEn2 : Byte
  frame : Frame
  invalidated : Bool
  deriving DecidableEq, Repr

/-- The interrupt handler's place and its three values (44_completion_waiter.md R143). -/
structure Handler where
  next : HandlerStep
  e : Byte
  s1 : Byte
  s2 : Byte
  deriving DecidableEq, Repr

/-- The machine. `cfg` holds the parameters and is written by no step. `port` is what is presented to the block, at most one operation (47_public_ops.md R194), `turns` the agents' turn order, `inIsr` the input of RECOVER. `rdata`, `results`, `history` are outputs: the value of the last register read, the result port's bytes in order, the events newest first. `draws` counts the free values used. -/
structure State where
  cfg : Params
  eng : Engine
  ctl : Controller
  busIdle : Bool
  sig : Bool
  irqMask : Bool
  isr : Handler
  inIsr : Bool
  port : Option Issue
  turns : List Turn
  rdata : Byte
  results : List Byte
  history : List Event
  draws : Nat
  deriving DecidableEq, Repr

/-- Why a run ends. -/
inductive Fault where
  /-- RECOVER_FULL at step V4 with `bitrate = 0` (70_reset_and_hazards.md R278), reached directly, from WRITE step W7, or by an operation that is resumed. Safe: the spec itself faults. -/
  | noBitrate
  deriving DecidableEq, Repr

/-- Why an operation is outside the admitted forms (00_scope.md R5). -/
inductive Refusal where
  /-- Raised by an arm of exec for an operation without a meaning; none is left. Safe. -/
  | notModelled (mnemonic : String)
  /-- Raised by every HOST and MICRO operation but the handler when `phase` is not `IDLE` (47_public_ops.md R194). Safe: the spec itself refuses. -/
  | busy
  /-- Raised by CONFIGURE, and by step V5 of the full reset in a state no run reaches (41_config.md R112). Safe: no state change. -/
  | invalidBitrate
  /-- Raised by TRANSFER (10_state.md R15). Safe: no state change. -/
  | malformedRequest
  /-- Raised by the fetch: bits 14:12 not 0 or a register number above 9 (30_encoding.md R69, 20_memory.md R43). Safe. -/
  | illegalBusWord (w : Half)
  /-- Raised by the fetch: no operation code, or operand bytes missing (30_encoding.md R72, log 16). Safe. -/
  | illegalCommand (bytes : List Byte)
  /-- Raised by the fetch: no identifier of 30_encoding.md R73. Safe. -/
  | illegalIdentifier (id : Byte)
  /-- Raised by an access to a register number outside 0 to 9 (20_memory.md R43). Safe. -/
  | noRegister (number : Nat)
  deriving DecidableEq, Repr

/-- The engine after power-on reset (10_state.md R34). DESIGN CHOICE (log 4): zero, empty or Ok where the spec says "unspecified"; (log 17): no call under way, operand 0. -/
def Engine.reset : Engine :=
  { bitrate := 0, tocnt := 0,
    req := { targetAddress := 0, commandCode := 0, writePayload := [], expectedLength := 0 },
    rsp := { bytes := [], writeChecksum := 0, readChecksum := 0 },
    res := .ok, phase := .idle, calls := [], newBitrate := 0,
    n := 0, i := 0, j := 0, rcvd := 0, s := 0, c := 0, e := 0, b := 0, div := 0, wfcs := 0, rfcs := 0 }

/-- The controller after power-on reset (10_state.md R34). DESIGN CHOICE: the bit timing, which the spec leaves unspecified, is zero (log 4); no frame is invalidated (log 15). -/
def Controller.reset : Controller :=
  { pd := true, rst := false, frst := false, txen := false, eof := false, error := 0,
    wfifo := [], rfifo := [], btLow := 0, btHigh := 0, intEn1 := 0, intEn2 := 0,
    frame := { active := false, eofDone := false }, invalidated := false }

/-- Power-on reset with given parameters (70_reset_and_hazards.md R260, R261). DESIGN CHOICE: an idle wire, a handler at rest with registers 0, nothing presented, no other agent's turn, empty outputs (log 5); `rdata` 0 before any register was read (log 13); `in_isr` false (log 8); no draw used (log 6). -/
def State.powerOn (cfg : Params) : State :=
  { cfg := cfg, eng := Engine.reset, ctl := Controller.reset, busIdle := true, sig := false,
    irqMask := true, isr := { next := .h0, e := 0, s1 := 0, s2 := 0 }, inIsr := false,
    port := none, turns := [], rdata := 0, results := [], history := [], draws := 0 }

/-- The machine right after reset, with the default parameters (log 3). -/
def State.reset : State := State.powerOn Params.default

end Sys2Proof.Machine
end

