-- ==== Sys2Proof/Machine/Flags.lean ====
section
/-! DEFINITION. One-bit fields at the positions of the layout (30_encoding.md R62), and every status value computed from other state (10_state.md R22, R23, R29). -/

namespace Sys2Proof.Machine

/-- The mask of a one-bit field at a bit position. -/
def bit (p : Fin 8) : Byte := 1#8 <<< p.val

/-- The field of one bit at a position is 1 in a value. -/
def hasBit (v : Byte) (p : Fin 8) : Bool := v.getLsbD p.val

/-- The mask of the position if the flag is set, else nothing. -/
def flag (b : Bool) (p : Fin 8) : Byte := if b then bit p else 0

/-- `CONTROL` as it reads (40_register_ops.md R80). -/
def controlByte (l : Layout) (k : Controller) : Byte :=
  flag k.txen l.txen ||| flag k.frst l.frst ||| flag k.rst l.rst ||| flag k.pd l.pd

/-- `STATUS1` as it reads (40_register_ops.md R82). -/
def status1Byte (l : Layout) (k : Controller) : Byte := flag k.eof l.eof

/-- `IDLE`: the wire is idle, or the controller is powered down (10_state.md R23). -/
def idleFlag (s : State) : Bool := s.ctl.pd || s.busIdle

/-- `WFF = (|WFIFO| = WFIFO_DEPTH)`. -/
def wffFlag (s : State) : Bool := s.ctl.wfifo.length == s.cfg.wfifoDepth

/-- `WFE = (|WFIFO| = 0)`. -/
def wfeFlag (s : State) : Bool := s.ctl.wfifo.isEmpty

/-- `RFF = (|RFIFO| = RFIFO_DEPTH)`. -/
def rffFlag (s : State) : Bool := s.ctl.rfifo.length == s.cfg.rfifoDepth

/-- `RFE = (|RFIFO| = 0)`. -/
def rfeFlag (s : State) : Bool := s.ctl.rfifo.isEmpty

/-- `STATUS2` as it reads (40_register_ops.md R84). -/
def status2Byte (s : State) : Byte :=
  flag (rfeFlag s) s.cfg.layout.rfe ||| flag (rffFlag s) s.cfg.layout.rff
    ||| flag (wfeFlag s) s.cfg.layout.wfe ||| flag (wffFlag s) s.cfg.layout.wff
    ||| flag (idleFlag s) s.cfg.layout.idle

/-- The IRQ line (10_state.md R29). -/
def irqLine (s : State) : Bool :=
  ((status1Byte s.cfg.layout s.ctl &&& s.ctl.intEn1) ||| (status2Byte s &&& s.ctl.intEn2)) != 0

/-- ISR may step: EVENT mode, the line up, the Interrupt Controller not masking it (10_state.md R29). -/
def irqEnabled (s : State) : Bool :=
  decide (s.cfg.mode = .event) && irqLine s && !s.irqMask

/-- CTL may take a frame step (48_controller_agent.md R205). -/
def ctlGate (k : Controller) : Bool := !k.pd && !k.rst && !k.frst

end Sys2Proof.Machine
end

