-- ==== Sys2Proof/Machine/Operands.lean ====
section
/-! DEFINITION. What the operations compute from their operands and the parameters: header bytes, the divisor, the admission checks, the result bytes (30_encoding.md R65 to R71, 41_config.md R111 and R112, 10_state.md R15). -/

namespace Sys2Proof.Machine

/-- `TXLEN` (30_encoding.md R65). -/
def txlen (p : Params) (r : Request) : Byte :=
  BitVec.ofNat 8 (r.writePayload.length + if p.txlenIncludesCmd then 1 else 0)

/-- `RXLEN` (30_encoding.md R66). -/
def rxlen (r : Request) : Byte := r.expectedLength.extractLsb' 0 8

/-- A request that a frame can carry (10_state.md R15, 30_encoding.md R65). -/
def requestOk (p : Params) (r : Request) : Bool :=
  decide (r.writePayload.length ≤ p.maxPayload)
    && decide (p.maxPayload ≤ if p.txlenIncludesCmd then 254 else 255)
    && decide (r.expectedLength.toNat ≤ 255)

/-- `div = MAX_CORE_CLOCK / bitrate`, floor division (41_config.md R111). -/
def divisor (p : Params) (br : Word) : Nat := p.maxCoreClock / br.toNat

/-- `div[7:0]`. -/
def divLow (d : Nat) : Byte := BitVec.ofNat 8 d

/-- `(div >> 8)` on the width of a register. -/
def divHighField (d : Nat) : Byte := BitVec.ofNat 8 (d / 256)

/-- `(div >> 8) & BT_HIGH_MASK`. -/
def divHigh (p : Params) (d : Nat) : Byte := divHighField d &&& p.btHighMask

/-- The divisor fits the two registers (30_encoding.md R68). -/
def representable (p : Params) (d : Nat) : Bool :=
  decide (d < 65536) && (divHighField d &&& ~~~p.btHighMask) == 0

/-- `valid(bitrate)` (41_config.md R112). -/
def validBitrate (p : Params) (br : Word) : Bool :=
  br != 0 && representable p (divisor p br)

/-- The number of read slots, `expected_length + 2`, without wrap (30_encoding.md R67, 10_state.md R18). -/
def slotCount (len : Half) : Nat := len.toNat + fcsLen

/-- TRANSFER runs the read phase (45_reader.md R161). -/
def readsResponse (p : Params) (r : Request) : Bool :=
  r.expectedLength != 0 || r.commandCode == p.pingCmd

/-- The event budget `TXLEN * EVENT_UNIT` (44_completion_waiter.md R142). -/
def eventBudget (p : Params) (len : Byte) : Nat := len.toNat * p.eventUnit

/-- `full = (tocnt > TIMEOUT_THRESHOLD)` (43_writer.md R133). -/
def escalates (p : Params) (tocnt : Word) : Bool := decide (p.timeoutThreshold < tocnt.toNat)

/-- The code of a result on the result port (30_encoding.md R71, 60_exceptions.md R230). -/
def resultCode (p : Params) : Result → Byte
  | .ok => p.errCode.ok
  | .err .busBusy => p.errCode.busBusy
  | .err .fifoFull => p.errCode.fifoFull
  | .err .timeout => p.errCode.timeout
  | .err .ioError => p.errCode.ioError

/-- The count byte and the bytes of a response on the result port (30_encoding.md R71). -/
def responseBytes (r : Response) : List Byte :=
  BitVec.ofNat 8 r.bytes.length :: r.bytes

/-- The bus address of a register (20_memory.md R42). -/
def busAddress (p : Params) (r : Reg) : Nat := p.regBase + r.number p.layout * p.regStride

end Sys2Proof.Machine
end

