-- ==== Sys2Proof/Machine/Ops.lean ====
section
/-! DEFINITION. The named operations over the register file and the FIFOs, the phase register, the result and error path, calls of sub-operations, and the fetch. One home for each register's read and write behaviour (40_register_ops.md R80 to R99). -/

namespace Sys2Proof.Machine

/-! Free values. -/

/-- A draw of 00_scope.md R7: any byte, a fresh one each time (log 6). -/
def draw (s : State) : Byte × State :=
  (Config.freeByte s.draws, { s with draws := s.draws + 1 })

/-! What a register access does, register by register. -/

/-- R80. -/
def readControl (s : State) : Byte × State := (controlByte s.cfg.layout s.ctl, s)

/-- R82: the read does not clear `EOF`. -/
def readStatus1 (s : State) : Byte × State := (status1Byte s.cfg.layout s.ctl, s)

/-- R84. -/
def readStatus2 (s : State) : Byte × State := (status2Byte s, s)

/-- R86: the read does not clear. -/
def readError (s : State) : Byte × State := (s.ctl.error, s)

/-- R88: any value, no state change of the block. -/
def readWrData (s : State) : Byte × State := draw s

/-- R90: the head of the read FIFO is popped; from an empty FIFO any value, no state change of the block. -/
def readRdData (s : State) : Byte × State :=
  match s.ctl.rfifo with
  | b :: rest => (b, { s with ctl := { s.ctl with rfifo := rest } })
  | [] => draw s

/-- R92. -/
def readBtLow (s : State) : Byte × State := (s.ctl.btLow, s)

/-- R94. -/
def readBtHigh (s : State) : Byte × State := (s.ctl.btHigh, s)

/-- R96. -/
def readIntEn1 (s : State) : Byte × State := (s.ctl.intEn1, s)

/-- R98. -/
def readIntEn2 (s : State) : Byte × State := (s.ctl.intEn2, s)

/-- Both FIFOs emptied, the frame dropped, `TXEN` cleared: what `RST` and `FRST` share (R81). -/
def dropFifosAndFrame (k : Controller) : Controller :=
  { k with wfifo := [], rfifo := [], frame := { active := false, eofDone := false }, txen := false,
           invalidated := false }

/-- The four fields of `CONTROL` from a written value; reserved bits are ignored (R81). -/
def assignControl (l : Layout) (v : Byte) (k : Controller) : Controller :=
  { k with pd := hasBit v l.pd, rst := hasBit v l.rst, frst := hasBit v l.frst,
           txen := hasBit v l.txen }

/-- `EOF <- 0; ERROR <- 0` when `RST_CLEARS_STATUS` (R81). -/
def clearStatus (p : Params) (k : Controller) : Controller :=
  if p.rstClearsStatus then { k with eof := false, error := 0 } else k

/-- `BT_LOW <- draw; BT_HIGH <- draw`: the bit timing is lost (R81). -/
def loseBitTiming (s : State) : State :=
  { s with ctl := { s.ctl with btLow := (draw s).1, btHigh := (draw (draw s).2).1 },
           draws := (draw (draw s).2).2.draws }

/-- The controller reset, held while `RST = 1` (R81). -/
def controllerReset (s : State) : State :=
  loseBitTiming { s with ctl := clearStatus s.cfg (dropFifosAndFrame s.ctl) }

/-- The internal FIFO reset, held while `FRST = 1` (R81). -/
def fifoReset (s : State) : State := { s with ctl := dropFifosAndFrame s.ctl }

/-- The `RST` half of a write of `CONTROL`. -/
def applyRst (s : State) : State := if s.ctl.rst then controllerReset s else s

/-- The `FRST` half of a write of `CONTROL`. -/
def applyFrst (s : State) : State := if s.ctl.frst then fifoReset s else s

/-- R81. -/
def writeControl (v : Byte) (s : State) : State :=
  applyFrst (applyRst { s with ctl := assignControl s.cfg.layout v s.ctl })

/-- R83: `EOF` is cleared where its bit is written as 1. -/
def writeStatus1 (v : Byte) (s : State) : State :=
  { s with ctl := { s.ctl with eof := s.ctl.eof && !hasBit v s.cfg.layout.eof } }

/-- R85: no effect. -/
def writeStatus2 (_ : Byte) (s : State) : State := s

/-- R87: `ERROR <- ERROR & ~v`. -/
def writeError (v : Byte) (s : State) : State :=
  { s with ctl := { s.ctl with error := s.ctl.error &&& ~~~v } }

/-- R89: discarded while `RST` or `FRST` is 1, dropped when the FIFO is full, else pushed at the tail. -/
def writeWrData (b : Byte) (s : State) : State :=
  if s.ctl.rst || s.ctl.frst then s
  else if wffFlag s then s
  else { s with ctl := { s.ctl with wfifo := s.ctl.wfifo ++ [b] } }

/-- R91: no effect. -/
def writeRdData (_ : Byte) (s : State) : State := s

/-- R93; a write under an active frame has no defined effect on that frame (log 15). -/
def writeBtLow (v : Byte) (s : State) : State :=
  { s with ctl := { s.ctl with btLow := v, invalidated := s.ctl.invalidated || s.ctl.frame.active } }

/-- R95: all eight bits are stored; a write under an active frame as for `BT_LOW` (log 15). -/
def writeBtHigh (v : Byte) (s : State) : State :=
  { s with ctl := { s.ctl with btHigh := v, invalidated := s.ctl.invalidated || s.ctl.frame.active } }

/-- R97. -/
def writeIntEn1 (v : Byte) (s : State) : State := { s with ctl := { s.ctl with intEn1 := v } }

/-- R99. -/
def writeIntEn2 (v : Byte) (s : State) : State := { s with ctl := { s.ctl with intEn2 := v } }

/-! The register-bus primitives (20_memory.md R41). -/

/-- The value and the read side effect of a register. -/
def readReg : Reg → State → Byte × State
  | .control => readControl
  | .status1 => readStatus1
  | .status2 => readStatus2
  | .error => readError
  | .wrData => readWrData
  | .rdData => readRdData
  | .btLow => readBtLow
  | .btHigh => readBtHigh
  | .intEn1 => readIntEn1
  | .intEn2 => readIntEn2

/-- The write effect of a register. -/
def writeReg : Reg → Byte → State → State
  | .control => writeControl
  | .status1 => writeStatus1
  | .status2 => writeStatus2
  | .error => writeError
  | .wrData => writeWrData
  | .rdData => writeRdData
  | .btLow => writeBtLow
  | .btHigh => writeBtHigh
  | .intEn1 => writeIntEn1
  | .intEn2 => writeIntEn2

/-- An event is recorded (log 13). -/
def record (x : Event) (s : State) : State := { s with history := x :: s.history }

/-- The value a register read presents stands in `rdata` until the next read (log 13). -/
def present (who : Agent) (r : Reg) (p : Byte × State) : State :=
  { record (.rd who r p.1) p.2 with rdata := p.1 }

/-- `RegRead(r)` by an agent: one atomic access. -/
def regRead (who : Agent) (r : Reg) (s : State) : State := present who r (readReg r s)

/-- `RegWrite(r, v)` by an agent: one atomic access. -/
def regWrite (who : Agent) (r : Reg) (v : Byte) (s : State) : State :=
  record (.wr who r v) (writeReg r v s)

/-- `MemRead(addr, 1)` (00_scope.md R7): a register number that names no register is refused (20_memory.md R43). -/
def memRead (number : Nat) (s : State) : Host.Outcome State Fault Refusal :=
  match regOfNumber s.cfg.layout number with
  | some r => .next (regRead .host r s)
  | none => .refused (.noRegister number)

/-- `MemWrite(addr, 1, v)` (00_scope.md R7). -/
def memWrite (number : Nat) (v : Byte) (s : State) : Host.Outcome State Fault Refusal :=
  match regOfNumber s.cfg.layout number with
  | some r => .next (regWrite .host r v s)
  | none => .refused (.noRegister number)

/-! The phase register and the ends of an operation. -/

/-- The engine stands at a step label (10_state.md R19). -/
def goto (l : Label) (s : State) : State := { s with eng := { s.eng with phase := .at l } }

/-- `return Ok`: `RES` is written, control goes back to the invoking operation. -/
def returnOk (s : State) : State := { s with eng := { s.eng with res := .ok } }

/-- Taking an exception of this block, `return Err(kind)` (00_scope.md R7, 60_exceptions.md R236): no state is saved and no mode switched; `RES <- Err(kind)`, and each enclosing operation ends with the same kind. -/
def raiseErr (k : ErrKind) (s : State) : State := { s with eng := { s.eng with res := .err k } }

/-- The running operation returned Ok. -/
def returnedOk (s : State) : Bool := decide (s.eng.res = .ok)

/-- `phase <- IDLE`: the operation has ended (47_public_ops.md R194, 60_exceptions.md R236). DESIGN CHOICE (log 24): its working registers keep their last values. -/
def toIdle (s : State) : State := { s with eng := { s.eng with phase := .idle } }

/-- Bytes appear on the result port (30_encoding.md R71). -/
def putResult (bytes : List Byte) (s : State) : State := { s with results := s.results ++ bytes }

/-- `RSP` becomes unspecified: a free value (log 7). -/
def forgetResponse (s : State) : State :=
  { s with eng := { s.eng with rsp := Config.freeResponse s.draws }, draws := s.draws + 1 }

/-- `RSP` as an operation leaves it: kept after Ok, unspecified after Err (10_state.md R16). -/
def settleResponse (s : State) : State := if returnedOk s then s else forgetResponse s

/-- A public operation ends: its result on the result port, `RSP` settled, `phase <- IDLE` (60_exceptions.md R236). -/
def endPublic (bytes : List Byte) (s : State) : State := toIdle (settleResponse (putResult bytes s))

/-- The code of a result on the result port. -/
def codeOf (s : State) : Byte := resultCode s.cfg s.eng.res

/-- The result of a TRANSFER: its code and, after Ok, the response (30_encoding.md R71). -/
def transferResult (s : State) : List Byte :=
  codeOf s :: if returnedOk s then responseBytes s.eng.rsp else []

/-- How each operation ends when HOST, or nobody, called it. CONFIGURE writes `RES` here, not in its body, because RECOVER, which calls it too, has no result (46_finish_recover.md R175, R176). An internal operation puts nothing on the result port (log 8). -/
def endOperation : EngOp → State → State
  | .configure, s => endPublic [codeOf (returnOk s)] (returnOk s)
  | .enable, s => endPublic [codeOf s] s
  | .disable, s => endPublic [codeOf s] s
  | .transfer, s => endPublic (transferResult s) s
  | .recover, s => toIdle s
  | .waitIdle, s => toIdle (settleResponse s)
  | .write, s => toIdle (settleResponse s)
  | .waitPoll, s => toIdle (settleResponse s)
  | .waitEvent, s => toIdle (settleResponse s)
  | .read, s => toIdle (settleResponse s)
  | .finish, s => toIdle (settleResponse s)

/-- A continuation runs after an operation that ended without a fault or a refusal. -/
def andThen (r : Host.Outcome State Fault Refusal)
    (f : State → Host.Outcome State Fault Refusal) : Host.Outcome State Fault Refusal :=
  match r with
  | .next s => f s
  | .fault x => .fault x
  | .refused x => .refused x

/-- An operation is accepted only when `phase = IDLE`; else it is refused and changes nothing (47_public_ops.md R194). -/
def whenIdle (f : State → Host.Outcome State Fault Refusal) (s : State) :
    Host.Outcome State Fault Refusal :=
  if s.eng.phase = .idle then f s else .refused .busy

/-- An operation of the engine from `IDLE` to `IDLE` (R194; for an internal operation issued by itself, log 8). -/
def runOperation (op : EngOp) (f : State → Host.Outcome State Fault Refusal) (s : State) :
    Host.Outcome State Fault Refusal :=
  whenIdle (fun t => andThen (f t) fun u => .next (endOperation op u)) s

/-! Calls of sub-operations. -/

/-- The step label of a call site. -/
def CallSite.label : CallSite → Label
  | .w5 => .w5
  | .w7Wait => .w7
  | .w7Recover => .w7
  | .d8 => .d8
  | .b0 => .b0
  | .t2 => .t2
  | .t3 => .t3
  | .t4 => .t4
  | .f6 => .f6
  | .v5 => .v5

/-- A sub-operation is called. -/
def enter (c : CallSite) (s : State) : State :=
  { s with eng := { s.eng with calls := c :: s.eng.calls } }

/-- The sub-operation returns: the engine stands at the calling step again. -/
def leave (c : CallSite) (s : State) : State :=
  { s with eng := { s.eng with calls := s.eng.calls.tail, phase := .at c.label } }

/-- A call and its return. -/
def call (c : CallSite) (f : State → State) (s : State) : State := leave c (f (enter c s))

/-- A call and its return, of an operation that may fault. -/
def callOrStop (c : CallSite) (f : State → Host.Outcome State Fault Refusal) (s : State) :
    Host.Outcome State Fault Refusal :=
  andThen (f (enter c s)) fun t => .next (leave c t)

/-! The fetch. -/

/-- What the engine finds presented. -/
inductive Fetched where
  | nothing
  | illegal (r : Refusal)
  | operation (i : Instr) (s : State)

/-- The refusal of an issue that encodes no operation (30_encoding.md R69, R72, R73). -/
def illegalIssue : Issue → Refusal
  | .bus w => .illegalBusWord w
  | .cmd bytes => .illegalCommand bytes
  | .micro id => .illegalIdentifier id

/-- What is presented is taken from the port and decoded. -/
def fetch (s : State) : Fetched :=
  match s.port with
  | none => .nothing
  | some issue =>
    match decodeIssue s.cfg.layout issue with
    | some i => .operation i { s with port := none }
    | none => .illegal (illegalIssue issue)

end Sys2Proof.Machine
end

