-- ==== Sys2Proof/Machine/Agents.lean ====
section
/-! DEFINITION. The agents beside the engine: CTL and ENV (48_controller_agent.md R205 to R213), ISR (44_completion_waiter.md R143), HOST (47_public_ops.md R194), and the turn order that interleaves them with the engine (00_scope.md R5, log 11). A move that is not enabled is not taken: the state is unchanged. -/

namespace Sys2Proof.Machine

/-- A frame is on the wire and its transmission is not over: what CTL_TX, CTL_UNDERRUN and CTL_EOF need. -/
def transmitting (k : Controller) : Bool := ctlGate k && k.frame.active && !k.frame.eofDone

/-- A frame is active and CTL may step: what CTL_RX and CTL_ERR need. -/
def framing (k : Controller) : Bool := ctlGate k && k.frame.active

/-- R206. -/
def ctlStart (s : State) : State :=
  if ctlGate s.ctl && s.ctl.txen && !s.ctl.frame.active then
    { s with ctl := { s.ctl with frame := { active := true, eofDone := false }, invalidated := false },
             busIdle := false }
  else s

/-- R207: the head of the write FIFO goes to the wire. -/
def ctlTx (s : State) : State :=
  if transmitting s.ctl then
    match s.ctl.wfifo with
    | b :: rest => record (.wireTx b) { s with ctl := { s.ctl with wfifo := rest } }
    | [] => s
  else s

/-- R207: the transmitter finds the write FIFO empty. -/
def ctlUnderrun (s : State) : State :=
  if transmitting s.ctl && s.ctl.wfifo.isEmpty then
    { s with ctl := { s.ctl with error := s.ctl.error ||| bit s.cfg.layout.wbur } }
  else s

/-- R208: `EOF` is raised, CTL clears `TXEN`. -/
def ctlEof (s : State) : State :=
  if transmitting s.ctl then
    { s with ctl := { s.ctl with eof := true, txen := false,
                                 frame := { active := true, eofDone := true } } }
  else s

/-- R209: the frame ends; `bus_idle` is ENV's again. -/
def ctlEnd (s : State) : State :=
  if framing s.ctl && s.ctl.frame.eofDone then
    { s with ctl := { s.ctl with frame := { active := false, eofDone := true }, invalidated := false } }
  else s

/-- R210: a received byte is pushed, or lost with a read-buffer overrun. -/
def ctlRx (b : Byte) (s : State) : State :=
  if framing s.ctl then
    record (.wireRx b)
      (if s.ctl.rfifo.length < s.cfg.rfifoDepth then
        { s with ctl := { s.ctl with rfifo := s.ctl.rfifo ++ [b] } }
      else { s with ctl := { s.ctl with error := s.ctl.error ||| bit s.cfg.layout.rbor } })
  else s

/-- R211: error bits among `BERR` and the five unnamed ones. -/
def ctlErr (m : Byte) (s : State) : State :=
  if framing s.ctl && !hasBit m s.cfg.layout.rbor && !hasBit m s.cfg.layout.wbur then
    { s with ctl := { s.ctl with error := s.ctl.error ||| m } }
  else s

/-- R212: other traffic on the wire; during the controller's own frame the wire is busy. -/
def envBus (v : Bool) (s : State) : State :=
  if s.ctl.frame.active then s else { s with busIdle := v }

/-- 41_config.md R113: after the bit timing was written under a frame, ENV may set any error bit for that frame, once CTL goes on with it (log 15). While `PD = 1` every register keeps its value (60_exceptions.md R249). -/
def envErr (m : Byte) (s : State) : State :=
  if framing s.ctl && s.ctl.invalidated then
    { s with ctl := { s.ctl with error := s.ctl.error ||| m } }
  else s

/-! The handler, one access or one post a step (R143). -/

/-- H0: `e <- RegRead(ERROR)`. -/
def handlerH0 (s : State) : State :=
  let t := regRead .isr .error s
  { t with isr := { t.isr with next := .h1, e := t.rdata } }

/-- H1: `s1 <- RegRead(STATUS1)`. -/
def handlerH1 (s : State) : State :=
  let t := regRead .isr .status1 s
  { t with isr := { t.isr with next := .h2, s1 := t.rdata } }

/-- H2: `s2 <- RegRead(STATUS2)`. -/
def handlerH2 (s : State) : State :=
  let t := regRead .isr .status2 s
  { t with isr := { t.isr with next := .h3, s2 := t.rdata } }

/-- H3: `RegWrite(STATUS1, s1)`, verbatim. -/
def handlerH3 (s : State) : State :=
  let t := regWrite .isr .status1 s.isr.s1 s
  { t with isr := { t.isr with next := .h4 } }

/-- The completion signal is posted: no effect when the slot is full (10_state.md R31). -/
def post (s : State) : State := { s with sig := true }

/-- H4: post on "TX FIFO empty". -/
def handlerH4 (s : State) : State :=
  let t := if hasBit s.isr.s2 s.cfg.layout.wfe then post s else s
  { t with isr := { t.isr with next := .h5 } }

/-- H5: post on "RX FIFO full" when `POST_ON_RFF`; the handler ends. -/
def handlerH5 (s : State) : State :=
  let t := if s.cfg.postOnRff && hasBit s.isr.s2 s.cfg.layout.rff then post s else s
  { t with isr := { t.isr with next := .h0 } }

/-- The handler's next step. -/
def handlerStep (s : State) : State :=
  match s.isr.next with
  | .h0 => handlerH0 s
  | .h1 => handlerH1 s
  | .h2 => handlerH2 s
  | .h3 => handlerH3 s
  | .h4 => handlerH4 s
  | .h5 => handlerH5 s

/-- ISR's turn: "ISR may step only while `irq = 1 and IRQ_MASK = 0 and MODE = EVENT`" (10_state.md R29). DEDUCED (log 9): the condition is tested at every step, so a handler whose line falls keeps its place until it rises. -/
def isrStep (s : State) : State := if irqEnabled s then handlerStep s else s

/-- An operation is presented from outside: while an operation runs, or another one is at the port, it is refused and nothing changes, for there is no queue of operations (47_public_ops.md R194); else it stands at the port (log 21). -/
def offer (x : Issue) (s : State) : State :=
  if s.eng.phase = .idle ∧ s.port = none then { s with port := some x } else s

/-- One atomic step of an agent that is not the engine. The engine's own turns change nothing here. -/
def agentStep : Turn → State → State
  | .eng => id
  | .expire => id
  | .ctlStart => ctlStart
  | .ctlTx => ctlTx
  | .ctlUnderrun => ctlUnderrun
  | .ctlEof => ctlEof
  | .ctlEnd => ctlEnd
  | .ctlRx b => ctlRx b
  | .ctlErr m => ctlErr m
  | .envBus v => envBus v
  | .envErr m => envErr m
  | .isr => isrStep
  | .host bytes => offer (.cmd bytes)
  | .platform w => offer (.bus w)

/-- The turns before the engine's next one, one agent after another (00_scope.md R5). A list that runs out means that no other agent moves any more. -/
def othersFrom : List Turn → State → State
  | [], s => { s with turns := [] }
  | .eng :: rest, s => { s with turns := rest }
  | t :: rest, s => othersFrom rest (agentStep t s)

/-- Between two engine steps the other agents take any number of steps (00_scope.md R5). -/
def others (s : State) : State := othersFrom s.turns s

/-- Whose turn it is between two operations. -/
inductive TurnTaken where
  | engine (s : State)
  | other (s : State)

/-- The turn at the head of the order; with none left the engine moves. -/
def takeTurn (s : State) : TurnTaken :=
  match s.turns with
  | [] => .engine s
  | .eng :: rest => .engine { s with turns := rest }
  | t :: rest => .other (agentStep t { s with turns := rest })

end Sys2Proof.Machine
end

