-- ==== Sys2Proof/Machine/EngineSteps.lean ====
section
/-! DEFINITION. The engine's own steps: one register access, one delay or one private update, after which the other agents may move (00_scope.md R5). Every operation is a sequence of these. -/

namespace Sys2Proof.Machine

/-- `s <- RegRead(r)` for a status register. -/
def latchS (t : State) : State := { t with eng := { t.eng with s := t.rdata } }

/-- `c <- RegRead(CONTROL)`. -/
def latchC (t : State) : State := { t with eng := { t.eng with c := t.rdata } }

/-- `e <- RegRead(ERROR)`. -/
def latchE (t : State) : State := { t with eng := { t.eng with e := t.rdata } }

/-- `b <- RegRead(RD_DATA)`. -/
def latchB (t : State) : State := { t with eng := { t.eng with b := t.rdata } }

/-- The engine reads a status register into `s`. -/
def loadStatus (r : Reg) (s : State) : State := others (latchS (regRead .eng r s))

/-- The engine reads `CONTROL` into `c`. -/
def loadControl (s : State) : State := others (latchC (regRead .eng .control s))

/-- The engine reads `ERROR` into `e`. -/
def loadError (s : State) : State := others (latchE (regRead .eng .error s))

/-- The engine pops a byte into `b`. -/
def loadData (s : State) : State := others (latchB (regRead .eng .rdData s))

/-- The status value last read shows a field. -/
def shows (field : Layout → Fin 8) (s : State) : Bool := hasBit s.eng.s (field s.cfg.layout)

/-- The engine writes a register. -/
def store (r : Reg) (v : Byte) (s : State) : State := others (regWrite .eng r v s)

/-- `DelayUs(n)`: no state change, the other agents may move (40_register_ops.md R101). -/
def delayUs (n : Nat) (s : State) : State := others (record (.delayUs n) s)

/-- `SleepMs(n)` (40_register_ops.md R101). -/
def sleepMs (n : Nat) (s : State) : State := others (record (.sleepMs n) s)

/-- `Log(x)` (10_state.md R33). -/
def logRecord (x : LogRecord) (s : State) : State := record (.log x) s

/-- `RegWrite(CONTROL, c | m)` with `c` as last read and m the mask of a field. -/
def storeControlOr (field : Layout → Fin 8) (s : State) : State :=
  store .control (s.eng.c ||| bit (field s.cfg.layout)) s

/-- `RegWrite(CONTROL, c & ~m)` with `c` as last read and m the mask of a field. -/
def storeControlAndNot (field : Layout → Fin 8) (s : State) : State :=
  store .control (s.eng.c &&& ~~~bit (field s.cfg.layout)) s

/-- `c <- RegRead(CONTROL); RegWrite(CONTROL, c | m)`: two accesses, not atomic (20_memory.md R50). -/
def setControl (field : Layout → Fin 8) (s : State) : State := storeControlOr field (loadControl s)

/-- `c <- RegRead(CONTROL); RegWrite(CONTROL, c & ~m)`: two accesses, not atomic (20_memory.md R50). -/
def clearControl (field : Layout → Fin 8) (s : State) : State := storeControlAndNot field (loadControl s)

/-- The attempts left in the running poll loop. -/
def setAttempts (n : Nat) (s : State) : State := { s with eng := { s.eng with n := n } }

/-- `n <- n - 1`. -/
def countAttempt (s : State) : State := setAttempts (s.eng.n - 1) s

end Sys2Proof.Machine
end

