-- ==== Sys2Proof/Machine/IdleDetector.lean ====
section
/-! DEFINITION. Bus Idle Monitor, operation WAIT_IDLE (42_idle_detector.md R120 to R122). -/

namespace Sys2Proof.Machine

/-- I1: one poll of `STATUS2`. -/
def idlePoll (s : State) : State := loadStatus .status2 (goto .i1 s)

/-- I5 and I6: the count is tested, and with attempts left the loop goes back. -/
def idleTest (s : State) : State := goto (if s.eng.n = 0 then .i5 else .i6) (goto .i5 s)

/-- I4 to I6: one attempt less. -/
def idleCount (s : State) : State := idleTest (countAttempt (goto .i4 s))

/-- I3 to I6: the delay after a failed read, and one attempt less. -/
def idleDelay (s : State) : State := idleCount (delayUs s.cfg.idlePollUs (goto .i3 s))

/-- I2: `Ok` when the poll shows an idle wire, else the loop goes on. -/
def idleDecide (again : State → State) (s : State) : State :=
  if shows Layout.idle s then returnOk (goto .i2 s) else again (idleDelay (goto .i2 s))

/-- The loop with the given attempts left: `Err(BusBusy)` at I5 when they are used up, else a poll. -/
def idleLoop : Nat → State → State
  | 0, s => raiseErr .busBusy (goto .i5 s)
  | n + 1, s => idleDecide (idleLoop n) (idlePoll s)

/-- I0. -/
def loadIdleAttempts (s : State) : State := setAttempts s.cfg.idleAttempts (goto .i0 s)

/-- `WAIT_IDLE()` (R120). -/
def waitIdle (s : State) : State := idleLoop s.cfg.idleAttempts (loadIdleAttempts s)

/-- The operation by itself. -/
def execWaitIdle (s : State) : Host.Outcome State Fault Refusal :=
  runOperation .waitIdle (fun t => .next (waitIdle t)) s

end Sys2Proof.Machine
end

