-- ==== Sys2Proof/Machine/Reader.lean ====
section
/-! DEFINITION. Transaction Reader, operation READ (45_reader.md R155 to R161). -/

namespace Sys2Proof.Machine

/-- D0. -/
def startRead (s : State) : State :=
  { s with eng := { s.eng with rcvd := 0, rsp := { s.eng.rsp with bytes := [] }, phase := .at .d0 } }

/-- D1: the slot index. -/
def setSlot (i : Nat) (s : State) : State :=
  { s with eng := { s.eng with i := i, phase := .at .d1 } }

/-- D2: the attempts are reloaded for every slot. -/
def loadRxAttempts (s : State) : State := setAttempts s.cfg.rxPollAttempts (goto .d2 s)

/-- D3: one poll of `STATUS2`. -/
def rxPoll (s : State) : State := loadStatus .status2 (goto .d3 s)

/-- D4: the delay after a poll that showed the FIFO empty, and one attempt less. -/
def rxDelay (s : State) : State := countAttempt (delayUs s.cfg.rxPollUs s)

/-- D4: the slot's byte is there, or the wait goes on. -/
def rxDecide (again : State → State) (s : State) : State :=
  if shows Layout.rfe s then again (rxDelay (goto .d4 s)) else returnOk (goto .d4 s)

/-- D3 and D4 with the given attempts left: the wait for one slot (R156). -/
def slotWait : Nat → State → State
  | 0, s => raiseErr .timeout s
  | n + 1, s => rxDecide (slotWait n) (rxPoll s)

/-- D2 to D4. -/
def awaitSlot (s : State) : State := slotWait s.cfg.rxPollAttempts (loadRxAttempts s)

/-- D5: the pop. -/
def popSlot (s : State) : State := loadData (goto .d5 s)

/-- D6, slot 0: the transmit-side checksum (R157). -/
def keepWriteChecksum (s : State) : State :=
  { s with eng := { s.eng with wfcs := s.eng.b, rsp := { s.eng.rsp with writeChecksum := s.eng.b } } }

/-- D6, slot 0 of a ping: the byte is the whole response (R158). -/
def keepPing (s : State) : State :=
  { s with eng := { s.eng with rsp := { s.eng.rsp with bytes := [s.eng.b] } } }

/-- D6, the last slot: the receive-side checksum, not validated (R157). -/
def keepReadChecksum (s : State) : State :=
  { s with eng := { s.eng with rfcs := s.eng.b, rsp := { s.eng.rsp with readChecksum := s.eng.b } } }

/-- D6, a payload slot. -/
def keepPayload (s : State) : State :=
  { s with eng := { s.eng with rcvd := s.eng.rcvd + 1,
                               rsp := { s.eng.rsp with bytes := s.eng.rsp.bytes ++ [s.eng.b] } } }

/-- The loop ends after slot 0 of a ping (R158) and after the last slot, `expected_length + 1` (R155, 60_exceptions.md R246). -/
def endsLoop (cmd : Byte) (len : Half) (s : State) : Bool :=
  decide (s.eng.i = 0 ∧ cmd = s.cfg.pingCmd) || decide (len.toNat + 1 ≤ s.eng.i)

/-- D6: where the byte of slot `i` goes. -/
def placeByte (cmd : Byte) (len : Half) (s : State) : State :=
  if s.eng.i = 0 then (if cmd = s.cfg.pingCmd then keepPing (keepWriteChecksum s) else keepWriteChecksum s)
  else if s.eng.i = len.toNat + 1 then keepReadChecksum s else keepPayload s

/-- D6, and the next slot unless the loop ends with this one. -/
def keepByte (cmd : Byte) (len : Half) (again : State → State) (s : State) : State :=
  if endsLoop cmd len s then placeByte cmd len (goto .d6 s)
  else again (setSlot (s.eng.i + 1) (placeByte cmd len (goto .d6 s)))

/-- D5 and D6 after the wait for the slot; a slot that times out ends READ (R156). -/
def takeByte (cmd : Byte) (len : Half) (again : State → State) (s : State) : State :=
  if returnedOk s then keepByte cmd len again (popSlot s) else s

/-- The loop of D1 with the given number of slots left. -/
def slotLoop (cmd : Byte) (len : Half) : Nat → State → State
  | 0, s => s
  | left + 1, s => takeByte cmd len (slotLoop cmd len left) (awaitSlot s)

/-- D1 to D6. -/
def readSlots (cmd : Byte) (len : Half) (s : State) : State :=
  slotLoop cmd len (slotCount len) (setSlot 0 s)

/-- D7: a mismatch is a log record and nothing else (R159). -/
def checkLength (len : Half) (s : State) : State :=
  if s.eng.rcvd = len then goto .d7 s else logRecord (.lengthMismatch s.eng.rcvd len) (goto .d7 s)

/-- D9, unless the idle check of D8 failed (R160). -/
def concludeRead (s : State) : State := if returnedOk s then returnOk (goto .d9 s) else s

/-- D8 and D9. -/
def readFromD8 (s : State) : State := concludeRead (call .d8 waitIdle (goto .d8 s))

/-- D7 to D9. -/
def readFromD7 (len : Half) (s : State) : State := readFromD8 (checkLength len s)

/-- D7 to D9, unless a slot timed out. -/
def afterSlots (len : Half) (s : State) : State := if returnedOk s then readFromD7 len s else s

/-- `READ(expected_length, command_code)` (R155). -/
def read (len : Half) (cmd : Byte) (s : State) : State :=
  afterSlots len (readSlots cmd len (startRead s))

/-- READ with the length and the command of the request latch. -/
def readOfRequest (s : State) : State := read s.eng.req.expectedLength s.eng.req.commandCode s

/-- The operation by itself (log 8). -/
def execRead (s : State) : Host.Outcome State Fault Refusal :=
  runOperation .read (fun t => .next (readOfRequest t)) s

end Sys2Proof.Machine
end

