-- ==== Sys2Proof/Machine/Completion.lean ====
section
/-! DEFINITION. Completion Waiter, operations WAIT_POLL, WAIT_EVENT and IRQ_HANDLER (44_completion_waiter.md R140 to R145). -/

namespace Sys2Proof.Machine

/-- P1: one poll of `STATUS1`. -/
def txPoll (s : State) : State := loadStatus .status1 (goto .p1 s)

/-- P5 and P6: the count is tested, and with attempts left the loop goes back. -/
def txTest (s : State) : State := goto (if s.eng.n = 0 then .p5 else .p6) (goto .p5 s)

/-- P4 to P6: one attempt less. -/
def txCount (s : State) : State := txTest (countAttempt (goto .p4 s))

/-- P3 to P6: the delay after a failed read, and one attempt less. -/
def txDelay (s : State) : State := txCount (delayUs s.cfg.txPollUs (goto .p3 s))

/-- P2: `Ok` when the poll shows end-of-frame, else the loop goes on. -/
def txDecide (again : State → State) (s : State) : State :=
  if shows Layout.eof s then returnOk (goto .p2 s) else again (txDelay (goto .p2 s))

/-- The loop with the given attempts left: `Err(Timeout)` at P5 when they are used up, else a poll. -/
def pollLoop : Nat → State → State
  | 0, s => raiseErr .timeout (goto .p5 s)
  | n + 1, s => txDecide (pollLoop n) (txPoll s)

/-- P0. -/
def loadTxAttempts (s : State) : State := setAttempts s.cfg.txPollAttempts (goto .p0 s)

/-- `WAIT_POLL()` (R141). -/
def waitPoll (s : State) : State := pollLoop s.cfg.txPollAttempts (loadTxAttempts s)

/-- E1: the signal is taken (10_state.md R31). -/
def takeSignal (s : State) : State := returnOk (goto .e1 { s with sig := false })

/-- E2: the budget has elapsed. -/
def expireWait (s : State) : State := raiseErr .timeout (goto .e2 s)

/-- The choice between E1 and E2 on the current value of `sig`. -/
def decideEvent (s : State) : State := if s.sig then takeSignal s else expireWait s

/-- E0, the suspension: the other agents move; at the engine's turn it takes the signal if it is there; the turn `expire` ends the wait when the signal is not there (R142). A turn order that runs out ends the budget (log 10). -/
def eventLoop : List Turn → State → State
  | [], s => decideEvent { s with turns := [] }
  | .eng :: rest, s => if s.sig then takeSignal { s with turns := rest } else eventLoop rest s
  | .expire :: rest, s => if s.sig then eventLoop rest s else expireWait { s with turns := rest }
  | t :: rest, s => eventLoop rest (agentStep t s)

/-- `WAIT_EVENT(txlen)` (R142): a signal already there is taken at once, and with a zero budget the choice is made at once. -/
def waitEvent (len : Byte) (s : State) : State :=
  if s.sig || eventBudget s.cfg len == 0 then decideEvent (goto .e0 s)
  else eventLoop s.turns (goto .e0 s)

/-- `WAIT_COMPLETE(txlen)` (R144). -/
def waitComplete (len : Byte) (s : State) : State :=
  match s.cfg.mode with
  | .polled => waitPoll s
  | .event => waitEvent len s

/-- WAIT_EVENT with the `txlen` of the request latch. -/
def waitEventOfRequest (s : State) : State := waitEvent (txlen s.cfg s.eng.req) s

/-- The operation by itself. -/
def execWaitPoll (s : State) : Host.Outcome State Fault Refusal :=
  runOperation .waitPoll (fun t => .next (waitPoll t)) s

/-- The operation by itself; `txlen` is that of the request latch. DESIGN CHOICE (log 8): in POLLED mode too, where R144 says that the signal does not exist, it waits on the slot that nobody fills, and ends in `Timeout`. -/
def execWaitEvent (s : State) : Host.Outcome State Fault Refusal :=
  runOperation .waitEvent (fun t => .next (waitEventOfRequest t)) s

/-- The handler's steps to its end, at most the given number, the other agents moving between them. Where the line does not allow a step the handler stays at it (10_state.md R29, log 9). -/
def handlerRun : Nat → State → State
  | 0, s => s
  | k + 1, s =>
    if !irqEnabled s then s
    else if (isrStep s).isr.next = .h0 then isrStep s
    else if (others (isrStep s)).isr.next = .h0 then others (isrStep s)
    else handlerRun k (others (isrStep s))

/-- `IRQ_HANDLER()` (R143): a handler that the line does not allow to step does nothing; one under way goes on to its end, as far as the line allows (log 9). -/
def execIrqHandler (s : State) : Host.Outcome State Fault Refusal := .next (handlerRun 6 s)

end Sys2Proof.Machine
end

