-- ==== Sys2Proof/Machine/Configure.lean ====
section
/-! DEFINITION. Configuration Manager, operation CONFIGURE (41_config.md R110 to R113). -/

namespace Sys2Proof.Machine

/-- C0: the operand is at hand for the steps that follow (log 17). -/
def latchOperand (br : Word) (s : State) : State :=
  { s with eng := { s.eng with newBitrate := br, phase := .at .c0 } }

/-- C1: power down. -/
def powerOff (s : State) : State := setControl Layout.pd (goto .c1 s)

/-- C2: the divisor. -/
def latchDiv (s : State) : State :=
  { s with eng := { s.eng with div := divisor s.cfg s.eng.newBitrate, phase := .at .c2 } }

/-- C3. -/
def storeDivLow (s : State) : State := store .btLow (divLow s.eng.div) (goto .c3 s)

/-- C4. -/
def storeDivHigh (s : State) : State := store .btHigh (divHigh s.cfg s.eng.div) (goto .c4 s)

/-- C5: power up. -/
def powerOn (s : State) : State := clearControl Layout.pd (goto .c5 s)

/-- C6: the bitrate is stored last. -/
def latchBitrate (s : State) : State :=
  { s with eng := { s.eng with bitrate := s.eng.newBitrate, phase := .at .c6 } }

/-- C6 and C7. -/
def finishConfigure (s : State) : State := goto .c7 (latchBitrate s)

/-- C4 to C7. -/
def configureFromC4 (s : State) : State := finishConfigure (powerOn (storeDivHigh s))

/-- C2 to C7. -/
def configureFromC2 (s : State) : State := configureFromC4 (storeDivLow (latchDiv s))

/-- C1 to C7. -/
def configureFromC1 (s : State) : State := configureFromC2 (powerOff s)

/-- `CONFIGURE(bitrate)` (R110): an invalid bitrate is refused with no state change (R112). -/
def configure (br : Word) (s : State) : Host.Outcome State Fault Refusal :=
  if validBitrate s.cfg br then .next (configureFromC1 (latchOperand br s))
  else .refused .invalidBitrate

/-- CONFIGURE as a public operation (47_public_ops.md R193). -/
def execConfigure (br : Word) (s : State) : Host.Outcome State Fault Refusal :=
  runOperation .configure (configure br) s

end Sys2Proof.Machine
end

