-- ==== Sys2Proof/Machine/FinishRecover.lean ====
section
/-! DEFINITION. Error Classifier and Recovery Controller, operations RECOVER and FINISH (46_finish_recover.md R170 to R177). RECOVER has no result: it writes `RES` nowhere. -/

namespace Sys2Proof.Machine

/-- `RECOVER(full = false)` (R175): `FRST` is set and left set. -/
def recoverFifo (s : State) : State := setControl Layout.frst (goto .v0 s)

/-- V1: `CONTROL <- PD | RST`, an assignment. -/
def assertReset (s : State) : State :=
  store .control (bit s.cfg.layout.pd ||| bit s.cfg.layout.rst) (goto .v1 s)

/-- V2: the hold; its length depends on the calling context (R177). -/
def holdReset (inIsr : Bool) (s : State) : State :=
  if inIsr then delayUs s.cfg.resetBusyUs (goto .v2 s) else sleepMs s.cfg.resetSleepMs (goto .v2 s)

/-- V3: reset released, still powered down. -/
def releaseReset (s : State) : State := clearControl Layout.rst (goto .v3 s)

/-- V5: CONFIGURE runs again with the last bitrate. -/
def reapplyBitrate (s : State) : Host.Outcome State Fault Refusal :=
  callOrStop .v5 (configure s.eng.bitrate) (goto .v5 s)

/-- V4 and V5: with no bitrate ever configured the spec faults (70_reset_and_hazards.md R278). -/
def reconfigure (s : State) : Host.Outcome State Fault Refusal :=
  if s.eng.bitrate = 0 then .fault .noBitrate else reapplyBitrate (goto .v4 s)

/-- V2 to V5. -/
def recoverFromV2 (inIsr : Bool) (s : State) : Host.Outcome State Fault Refusal :=
  reconfigure (releaseReset (holdReset inIsr s))

/-- `RECOVER(full = true)` (R176). -/
def recoverFull (inIsr : Bool) (s : State) : Host.Outcome State Fault Refusal :=
  recoverFromV2 inIsr (assertReset s)

/-- `RECOVER(full)`: the decision of 10_state.md R32. -/
def recover (full : Bool) (s : State) : Host.Outcome State Fault Refusal :=
  if full then recoverFull false s else .next (recoverFifo s)

/-- The operation by itself. -/
def execRecoverFifo (s : State) : Host.Outcome State Fault Refusal :=
  runOperation .recover (fun t => .next (recoverFifo t)) s

/-- The operation by itself, with the input `in_isr` (log 8). -/
def execRecoverFull (s : State) : Host.Outcome State Fault Refusal :=
  runOperation .recover (fun t => recoverFull t.inIsr t) s

/-- F0. -/
def readEof (s : State) : State := loadStatus .status1 (goto .f0 s)

/-- F1: `EOF` is cleared if it was read as 1, with exactly its mask. -/
def clearEof (s : State) : State :=
  if shows Layout.eof s then store .status1 (bit s.cfg.layout.eof) (goto .f1 s) else goto .f1 s

/-- F2. -/
def readErrors (s : State) : State := loadError (goto .f2 s)

/-- F4, one class: a record if its bit is set (R171). -/
def classify (field : Layout → Fin 8) (x : ErrorClass) (s : State) : State :=
  if hasBit s.eng.e (field s.cfg.layout) then logRecord (.errorClass x) s else s

/-- F4: the named bits in the order RBOR, WBUR, BERR. -/
def classifyErrors (s : State) : State :=
  classify Layout.berr .berr (classify Layout.wbur .wbur (classify Layout.rbor .rbor (goto .f4 s)))

/-- F5: the value read is written back verbatim (R172). -/
def clearErrors (s : State) : State := store .error s.eng.e (goto .f5 s)

/-- F7: `Err(IoError)` (R174). -/
def failFinish (s : State) : State := raiseErr .ioError (goto .f7 s)

/-- F6 and F7: the FIFO-only recovery (R173), then the error. -/
def finishFromF6 (s : State) : State := failFinish (call .f6 recoverFifo (goto .f6 s))

/-- F4 to F7. -/
def finishFromF4 (s : State) : State := finishFromF6 (clearErrors (classifyErrors s))

/-- F3 to F7: the whole byte is tested. -/
def judge (s : State) : State :=
  if s.eng.e = 0 then returnOk (goto .f3 s) else finishFromF4 (goto .f3 s)

/-- `FINISH()` (R170). -/
def finish (s : State) : State := judge (readErrors (clearEof (readEof s)))

/-- The operation by itself. -/
def execFinish (s : State) : Host.Outcome State Fault Refusal :=
  runOperation .finish (fun t => .next (finish t)) s

end Sys2Proof.Machine
end

