-- ==== Sys2Proof/Machine/Writer.lean ====
section
/-! DEFINITION. Transaction Writer, operation WRITE, with the consecutive-timeout counter (43_writer.md R125 to R133). -/

namespace Sys2Proof.Machine

/-- W1: one read of `STATUS2`. -/
def checkRoom (s : State) : State := loadStatus .status2 (goto .w1 s)

/-- W2: the pending FIFO-reset flag is cleared, whether or not it was set (R127). -/
def clearPendingReset (s : State) : State := clearControl Layout.frst (goto .w2 s)

/-- W3, first byte. -/
def pushTarget (s : State) : State := store .wrData s.eng.req.targetAddress s

/-- W3, second byte. -/
def pushTxlen (s : State) : State := store .wrData (txlen s.cfg s.eng.req) s

/-- W3, third byte. -/
def pushRxlen (s : State) : State := store .wrData (rxlen s.eng.req) s

/-- W3: the header, unconditional and in this order (R128). -/
def pushHeader (s : State) : State := pushRxlen (pushTxlen (pushTarget (goto .w3 s)))

/-- W4: the command code, unguarded (R129). -/
def pushCommand (s : State) : State := store .wrData s.eng.req.commandCode s

/-- W4: the guard read of one payload byte. -/
def guardRead (j : Byte) (s : State) : State :=
  loadStatus .status2 { s with eng := { s.eng with j := j } }

/-- W4: a payload byte is pushed only if the guard read shows room; a skipped byte is not retried (R129). -/
def pushGuarded (b : Byte) (s : State) : State := if shows Layout.wff s then s else store .wrData b s

/-- W4: the payload bytes in ascending order. -/
def pushPayload : List Byte → Byte → State → State
  | [], _, s => s
  | b :: rest, j, s => pushPayload rest (j + 1) (pushGuarded b (guardRead j s))

/-- W4: nothing after the header when `TXLEN = 0`. -/
def pushBody (s : State) : State :=
  if txlen s.cfg s.eng.req = 0 then goto .w4 s
  else pushPayload s.eng.req.writePayload 0 (pushCommand (goto .w4 s))

/-- W5. -/
def checkIdle (s : State) : State := call .w5 waitIdle (goto .w5 s)

/-- W6: the trigger and the settle delay (R131). -/
def trigger (s : State) : State := delayUs s.cfg.settleUs (setControl Layout.txen (goto .w6 s))

/-- W7: the completion wait. -/
def awaitCompletion (s : State) : State :=
  call .w7Wait (waitComplete (txlen s.cfg s.eng.req)) (goto .w7 s)

/-- `tocnt <- n`. -/
def putTimeouts (n : Word) (s : State) : State := { s with eng := { s.eng with tocnt := n } }

/-- `tocnt <- n` as an engine step: after it the other agents may move, so a post of the handler can fall between the end of the wait and the next access (00_scope.md R5). -/
def setTimeouts (n : Word) (s : State) : State := others (putTimeouts n s)

/-- `tocnt <- tocnt + 1`, modulo 2^32 (R132). -/
def countTimeout (s : State) : State := setTimeouts (s.eng.tocnt + 1) s

/-- `tocnt <- 0`. -/
def clearTimeouts (s : State) : State := setTimeouts 0 s

/-- W7: the escalation rule (R133), with the count already incremented. -/
def recoverFromTimeout (s : State) : Host.Outcome State Fault Refusal :=
  callOrStop .w7Recover (recover (escalates s.cfg s.eng.tocnt)) s

/-- W7 after a timeout: count, recover, return `Err(Timeout)`, in this order (R132, R133). -/
def timedOut (s : State) : Host.Outcome State Fault Refusal :=
  andThen (recoverFromTimeout (countTimeout s)) fun t => .next (raiseErr .timeout t)

/-- W7: the end of WRITE. -/
def concludeWrite (s : State) : Host.Outcome State Fault Refusal :=
  if returnedOk s then .next (returnOk (clearTimeouts s)) else timedOut s

/-- W7. -/
def writeFromW7 (s : State) : Host.Outcome State Fault Refusal := concludeWrite (awaitCompletion s)

/-- W6 and W7, after an idle wire; else the error of the idle check ends WRITE (R130). -/
def transmit (s : State) : Host.Outcome State Fault Refusal :=
  if returnedOk s then writeFromW7 (trigger s) else .next s

/-- W5 to W7. -/
def writeFromW5 (s : State) : Host.Outcome State Fault Refusal := transmit (checkIdle s)

/-- W2 to W7. -/
def writeFromW2 (s : State) : Host.Outcome State Fault Refusal :=
  writeFromW5 (pushBody (pushHeader (clearPendingReset s)))

/-- W1 decides: a full write FIFO ends WRITE with no register write (R126). -/
def writeAfterCheck (s : State) : Host.Outcome State Fault Refusal :=
  if shows Layout.wff s then .next (raiseErr .fifoFull s) else writeFromW2 s

/-- `WRITE(req)` with the request latch (R125). -/
def write (s : State) : Host.Outcome State Fault Refusal := writeAfterCheck (checkRoom s)

/-- The operation by itself. -/
def execWrite (s : State) : Host.Outcome State Fault Refusal := runOperation .write write s

end Sys2Proof.Machine
end

