-- ==== Sys2Proof/Machine/PublicOps.lean ====
section
/-! DEFINITION. The public operations TRANSFER, ENABLE, DISABLE (47_public_ops.md R190 to R194); CONFIGURE is in Configure.lean. -/

namespace Sys2Proof.Machine

/-- The mask bit of the Interrupt Controller, written in EVENT mode only (R191, R192). -/
def setIrqMask (v : Bool) (s : State) : State :=
  match s.cfg.mode with
  | .event => { s with irqMask := v }
  | .polled => s

/-- N2. -/
def finishEnable (s : State) : State := returnOk (goto .n2 s)

/-- N1 and N2: unmask. -/
def unmaskLine (s : State) : State := finishEnable (setIrqMask false (goto .n1 s))

/-- `ENABLE()` (R191): power up, then unmask. -/
def enable (s : State) : State := unmaskLine (clearControl Layout.pd (goto .n0 s))

/-- ENABLE as a public operation. -/
def execEnable (s : State) : Host.Outcome State Fault Refusal :=
  runOperation .enable (fun t => .next (enable t)) s

/-- B3. -/
def finishDisable (s : State) : State := returnOk (goto .b3 s)

/-- B2 and B3: mask. -/
def maskLine (s : State) : State := finishDisable (setIrqMask true (goto .b2 s))

/-- B1 to B3: power down, then mask. -/
def powerDown (s : State) : State := maskLine (setControl Layout.pd (goto .b1 s))

/-- B0 decides: a busy wire ends DISABLE with nothing done. -/
def disableAfterCheck (s : State) : State := if returnedOk s then powerDown s else s

/-- `DISABLE()` (R192). -/
def disable (s : State) : State := disableAfterCheck (call .b0 waitIdle (goto .b0 s))

/-- DISABLE as a public operation. -/
def execDisable (s : State) : Host.Outcome State Fault Refusal :=
  runOperation .disable (fun t => .next (disable t)) s

/-- T1. -/
def latchRequest (r : Request) (s : State) : State :=
  { s with eng := { s.eng with req := r, rsp := { s.eng.rsp with bytes := [] }, phase := .at .t1 } }

/-- T5, unless FINISH failed. -/
def concludeTransfer (s : State) : State := if returnedOk s then returnOk (goto .t5 s) else s

/-- T4 and T5. -/
def transferFromT4 (s : State) : State := concludeTransfer (call .t4 finish (goto .t4 s))

/-- T4 and T5, unless READ failed. -/
def afterRead (s : State) : State := if returnedOk s then transferFromT4 s else s

/-- T3: READ if the request expects a response or is a ping. -/
def readPhase (s : State) : State :=
  if readsResponse s.cfg s.eng.req then call .t3 readOfRequest (goto .t3 s) else goto .t3 s

/-- T3 to T5, unless WRITE failed. -/
def afterWrite (s : State) : State := if returnedOk s then afterRead (readPhase s) else s

/-- T2 to T5: WRITE, READ, FINISH, the first error ending the operation (R190, 60_exceptions.md R234). -/
def transferFromT2 (s : State) : Host.Outcome State Fault Refusal :=
  andThen (callOrStop .t2 write (goto .t2 s)) fun t => .next (afterWrite t)

/-- `TRANSFER(request)` (R190): a request that no frame can carry is refused at T0. -/
def transfer (r : Request) (s : State) : Host.Outcome State Fault Refusal :=
  if requestOk s.cfg r then transferFromT2 (latchRequest r (goto .t0 s)) else .refused .malformedRequest

/-- TRANSFER as a public operation. -/
def execTransfer (r : Request) (s : State) : Host.Outcome State Fault Refusal :=
  runOperation .transfer (transfer r) s

end Sys2Proof.Machine
end

