-- ==== Sys2Proof/Machine/RegBus.lean ====
section
/-! DEFINITION. Family REG: a read and a write of each register as operations of their own, presented on the register bus (40_register_ops.md R80 to R99). Every one is accepted whatever PD, RST and FRST are (R100) and completes. -/

namespace Sys2Proof.Machine

/-- R80. -/
def execRdControl (s : State) : Host.Outcome State Fault Refusal := .next (regRead .host .control s)

/-- R81. -/
def execWrControl (v : Byte) (s : State) : Host.Outcome State Fault Refusal :=
  .next (regWrite .host .control v s)

/-- R82. -/
def execRdStatus1 (s : State) : Host.Outcome State Fault Refusal := .next (regRead .host .status1 s)

/-- R83. -/
def execWrStatus1 (v : Byte) (s : State) : Host.Outcome State Fault Refusal :=
  .next (regWrite .host .status1 v s)

/-- R84. -/
def execRdStatus2 (s : State) : Host.Outcome State Fault Refusal := .next (regRead .host .status2 s)

/-- R85. -/
def execWrStatus2 (v : Byte) (s : State) : Host.Outcome State Fault Refusal :=
  .next (regWrite .host .status2 v s)

/-- R86. -/
def execRdError (s : State) : Host.Outcome State Fault Refusal := .next (regRead .host .error s)

/-- R87. -/
def execWrError (v : Byte) (s : State) : Host.Outcome State Fault Refusal :=
  .next (regWrite .host .error v s)

/-- R88. -/
def execRdWrData (s : State) : Host.Outcome State Fault Refusal := .next (regRead .host .wrData s)

/-- R89. -/
def execWrWrData (b : Byte) (s : State) : Host.Outcome State Fault Refusal :=
  .next (regWrite .host .wrData b s)

/-- R90. -/
def execRdRdData (s : State) : Host.Outcome State Fault Refusal := .next (regRead .host .rdData s)

/-- R91. -/
def execWrRdData (v : Byte) (s : State) : Host.Outcome State Fault Refusal :=
  .next (regWrite .host .rdData v s)

/-- R92. -/
def execRdBtLow (s : State) : Host.Outcome State Fault Refusal := .next (regRead .host .btLow s)

/-- R93. -/
def execWrBtLow (v : Byte) (s : State) : Host.Outcome State Fault Refusal :=
  .next (regWrite .host .btLow v s)

/-- R94. -/
def execRdBtHigh (s : State) : Host.Outcome State Fault Refusal := .next (regRead .host .btHigh s)

/-- R95. -/
def execWrBtHigh (v : Byte) (s : State) : Host.Outcome State Fault Refusal :=
  .next (regWrite .host .btHigh v s)

/-- R96. -/
def execRdIntEn1 (s : State) : Host.Outcome State Fault Refusal := .next (regRead .host .intEn1 s)

/-- R97. -/
def execWrIntEn1 (v : Byte) (s : State) : Host.Outcome State Fault Refusal :=
  .next (regWrite .host .intEn1 v s)

/-- R98. -/
def execRdIntEn2 (s : State) : Host.Outcome State Fault Refusal := .next (regRead .host .intEn2 s)

/-- R99. -/
def execWrIntEn2 (v : Byte) (s : State) : Host.Outcome State Fault Refusal :=
  .next (regWrite .host .intEn2 v s)

end Sys2Proof.Machine
end

