-- ==== Sys2Proof/Machine/Dispatch.lean ====
section
/-! DEFINITION. The dispatch: one arm per constructor of Instr. -/

namespace Sys2Proof.Machine

def exec (i : Instr) (s : State) : Host.Outcome State Fault Refusal :=
  match i with
  | .rdControl => Sys2Proof.Machine.execRdControl s
  | .wrControl v => Sys2Proof.Machine.execWrControl v s
  | .rdStatus1 => Sys2Proof.Machine.execRdStatus1 s
  | .wrStatus1 v => Sys2Proof.Machine.execWrStatus1 v s
  | .rdStatus2 => Sys2Proof.Machine.execRdStatus2 s
  | .wrStatus2 v => Sys2Proof.Machine.execWrStatus2 v s
  | .rdError => Sys2Proof.Machine.execRdError s
  | .wrError v => Sys2Proof.Machine.execWrError v s
  | .rdWrData => Sys2Proof.Machine.execRdWrData s
  | .wrWrData b => Sys2Proof.Machine.execWrWrData b s
  | .rdRdData => Sys2Proof.Machine.execRdRdData s
  | .wrRdData v => Sys2Proof.Machine.execWrRdData v s
  | .rdBtLow => Sys2Proof.Machine.execRdBtLow s
  | .wrBtLow v => Sys2Proof.Machine.execWrBtLow v s
  | .rdBtHigh => Sys2Proof.Machine.execRdBtHigh s
  | .wrBtHigh v => Sys2Proof.Machine.execWrBtHigh v s
  | .rdIntEn1 => Sys2Proof.Machine.execRdIntEn1 s
  | .wrIntEn1 v => Sys2Proof.Machine.execWrIntEn1 v s
  | .rdIntEn2 => Sys2Proof.Machine.execRdIntEn2 s
  | .wrIntEn2 v => Sys2Proof.Machine.execWrIntEn2 v s
  | .configure bitrate => Sys2Proof.Machine.execConfigure bitrate s
  | .enable => Sys2Proof.Machine.execEnable s
  | .disable => Sys2Proof.Machine.execDisable s
  | .transfer req => Sys2Proof.Machine.execTransfer req s
  | .waitIdle => Sys2Proof.Machine.execWaitIdle s
  | .write => Sys2Proof.Machine.execWrite s
  | .waitPoll => Sys2Proof.Machine.execWaitPoll s
  | .waitEvent => Sys2Proof.Machine.execWaitEvent s
  | .read => Sys2Proof.Machine.execRead s
  | .finish => Sys2Proof.Machine.execFinish s
  | .recoverFifo => Sys2Proof.Machine.execRecoverFifo s
  | .recoverFull => Sys2Proof.Machine.execRecoverFull s
  | .irqHandler => Sys2Proof.Machine.execIrqHandler s

end Sys2Proof.Machine
end

