-- ==== Sys2Proof/Machine/Resume.lean ====
section
/-! DEFINITION. An operation in progress goes on from the step label at which `phase` stands (10_state.md R19): the rest of the running operation, then, call by call, the rest of each operation that called it. It is built from the same pieces as the operations themselves. A label is taken at its beginning (log 17). -/

namespace Sys2Proof.Machine

/-- The operation of a step label. -/
def Label.op : Label → EngOp
  | .c0 | .c1 | .c2 | .c3 | .c4 | .c5 | .c6 | .c7 => .configure
  | .i0 | .i1 | .i2 | .i3 | .i4 | .i5 | .i6 => .waitIdle
  | .w1 | .w2 | .w3 | .w4 | .w5 | .w6 | .w7 => .write
  | .p0 | .p1 | .p2 | .p3 | .p4 | .p5 | .p6 => .waitPoll
  | .e0 | .e1 | .e2 => .waitEvent
  | .d0 | .d1 | .d2 | .d3 | .d4 | .d5 | .d6 | .d7 | .d8 | .d9 => .read
  | .f0 | .f1 | .f2 | .f3 | .f4 | .f5 | .f6 | .f7 => .finish
  | .v0 | .v1 | .v2 | .v3 | .v4 | .v5 => .recover
  | .t0 | .t1 | .t2 | .t3 | .t4 | .t5 => .transfer
  | .n0 | .n1 | .n2 => .enable
  | .b0 | .b1 | .b2 | .b3 => .disable

/-- The rest of WAIT_IDLE from a poll, I1. -/
def idleFromI1 (s : State) : State := idleDecide (idleLoop (s.eng.n - 1)) (idlePoll s)

/-- The rest of WAIT_POLL from a poll, P1. -/
def pollFromP1 (s : State) : State := txDecide (pollLoop (s.eng.n - 1)) (txPoll s)

/-- The rest of the present slot's wait from a poll, D3. -/
def slotFromD3 (s : State) : State := rxDecide (slotWait (s.eng.n - 1)) (rxPoll s)

/-- The slots after the present one. -/
def laterSlots (s : State) : State → State :=
  slotLoop s.eng.req.commandCode s.eng.req.expectedLength (slotCount s.eng.req.expectedLength - (s.eng.i + 1))

/-- The rest of READ when the wait for the present slot has ended. -/
def readAfterWait (s : State) : State :=
  afterSlots s.eng.req.expectedLength
    (takeByte s.eng.req.commandCode s.eng.req.expectedLength (laterSlots s) s)

/-- The rest of READ from D1: with a slot left its wait, else D7 (45_reader.md R155). -/
def readFromD1 (s : State) : State :=
  if s.eng.i < slotCount s.eng.req.expectedLength then readAfterWait (awaitSlot s)
  else readFromD7 s.eng.req.expectedLength s

/-- The rest of READ from D6 of the present slot. -/
def readFromD6 (s : State) : State :=
  afterSlots s.eng.req.expectedLength
    (keepByte s.eng.req.commandCode s.eng.req.expectedLength (laterSlots s) s)

/-- The input `in_isr` of a RECOVER under way: false when the engine called it (46_finish_recover.md R177). -/
def callerInIsr (s : State) : Bool := s.inIsr && s.eng.calls.isEmpty

/-- The running operation from a step label to its end. Its operands are `newBitrate` for CONFIGURE, the request latch for TRANSFER, WRITE, WAIT_EVENT and READ. -/
def runFrom : Label → State → Host.Outcome State Fault Refusal
  | .c0, s => configure s.eng.newBitrate s
  | .c1, s => .next (configureFromC1 s)
  | .c2, s => .next (configureFromC2 s)
  | .c3, s => .next (configureFromC4 (storeDivLow s))
  | .c4, s => .next (configureFromC4 s)
  | .c5, s => .next (finishConfigure (powerOn s))
  | .c6, s => .next (finishConfigure s)
  | .c7, s => .next s
  | .i0, s => .next (waitIdle s)
  | .i1, s => .next (idleFromI1 s)
  | .i2, s => .next (idleDecide (idleLoop (s.eng.n - 1)) s)
  | .i3, s => .next (idleLoop (s.eng.n - 1) (idleDelay s))
  | .i4, s => .next (idleLoop (s.eng.n - 1) (idleCount s))
  | .i5, s => .next (idleLoop s.eng.n (idleTest s))
  | .i6, s => .next (idleFromI1 s)
  | .w1, s => write s
  | .w2, s => writeFromW2 s
  | .w3, s => writeFromW5 (pushBody (pushHeader s))
  | .w4, s => writeFromW5 (pushBody s)
  | .w5, s => writeFromW5 s
  | .w6, s => writeFromW7 (trigger s)
  | .w7, s => writeFromW7 s
  | .p0, s => .next (waitPoll s)
  | .p1, s => .next (pollFromP1 s)
  | .p2, s => .next (txDecide (pollLoop (s.eng.n - 1)) s)
  | .p3, s => .next (pollLoop (s.eng.n - 1) (txDelay s))
  | .p4, s => .next (pollLoop (s.eng.n - 1) (txCount s))
  | .p5, s => .next (pollLoop s.eng.n (txTest s))
  | .p6, s => .next (pollFromP1 s)
  | .e0, s => .next (waitEventOfRequest s)
  | .e1, s => .next (decideEvent s)
  | .e2, s => .next (expireWait s)
  | .d0, s => .next (readOfRequest s)
  | .d1, s => .next (readFromD1 s)
  | .d2, s => .next (readAfterWait (awaitSlot s))
  | .d3, s => .next (readAfterWait (slotFromD3 s))
  | .d4, s => .next (readAfterWait (rxDecide (slotWait (s.eng.n - 1)) s))
  | .d5, s => .next (readFromD6 (popSlot (returnOk s)))
  | .d6, s => .next (readFromD6 (returnOk s))
  | .d7, s => .next (readFromD7 s.eng.req.expectedLength s)
  | .d8, s => .next (readFromD8 s)
  | .d9, s => .next (returnOk s)
  | .f0, s => .next (finish s)
  | .f1, s => .next (judge (readErrors (clearEof s)))
  | .f2, s => .next (judge (readErrors s))
  | .f3, s => .next (judge s)
  | .f4, s => .next (finishFromF4 s)
  | .f5, s => .next (finishFromF6 (clearErrors s))
  | .f6, s => .next (finishFromF6 s)
  | .f7, s => .next (failFinish s)
  | .v0, s => .next (recoverFifo s)
  | .v1, s => recoverFull (callerInIsr s) s
  | .v2, s => recoverFromV2 (callerInIsr s) s
  | .v3, s => reconfigure (releaseReset s)
  | .v4, s => reconfigure s
  | .v5, s => reapplyBitrate s
  | .t0, s => transfer s.eng.req s
  | .t1, s => transferFromT2 (latchRequest s.eng.req s)
  | .t2, s => transferFromT2 s
  | .t3, s => .next (afterRead (readPhase (returnOk s)))
  | .t4, s => .next (transferFromT4 s)
  | .t5, s => .next (returnOk s)
  | .n0, s => .next (enable s)
  | .n1, s => .next (unmaskLine s)
  | .n2, s => .next (finishEnable s)
  | .b0, s => .next (disable s)
  | .b1, s => .next (powerDown s)
  | .b2, s => .next (maskLine s)
  | .b3, s => .next (finishDisable s)

/-- The rest of the calling operation after the sub-operation has returned. -/
def afterCall : CallSite → State → Host.Outcome State Fault Refusal
  | .w5, s => transmit s
  | .w7Wait, s => concludeWrite s
  | .w7Recover, s => .next (raiseErr .timeout s)
  | .d8, s => .next (concludeRead s)
  | .b0, s => .next (disableAfterCheck s)
  | .t2, s => .next (afterWrite s)
  | .t3, s => .next (afterRead s)
  | .t4, s => .next (concludeTransfer s)
  | .f6, s => .next (failFinish s)
  | .v5, s => .next s

/-- The calls under way return, innermost first, and each caller goes on to its end. -/
def unwind : List CallSite → State → Host.Outcome State Fault Refusal
  | [], s => .next s
  | c :: outer, s => andThen (afterCall c (leave c s)) (unwind outer)

/-- The operation that nobody called: the caller of the outermost call, or with no call under way the one at the label. -/
def outermost : List CallSite → Label → EngOp
  | [], l => l.op
  | c :: outer, _ => outermost outer c.label

/-- The operation in progress goes on to its end; an idle engine stays idle (log 21). -/
def resume (s : State) : Host.Outcome State Fault Refusal :=
  match s.eng.phase with
  | .idle => .next s
  | .at l =>
    andThen (runFrom l s) fun t =>
      andThen (unwind s.eng.calls t) fun u => .next (endOperation (outermost s.eng.calls l) u)

end Sys2Proof.Machine
end

