-- ==== Sys2Proof/Machine/Step.lean ====
section
/-! DEFINITION. One step of the machine: it is another agent's turn, or the engine fetches what is presented and runs it whole, the other agents moving inside it (00_scope.md R4, R5, log 1). -/

namespace Sys2Proof.Machine

/-- The engine's turn. With nothing presented an operation in progress goes on (10_state.md R19), and an idle engine stays idle. -/
def engineStep (s : State) : Host.Outcome State Fault Refusal :=
  match fetch s with
  | .nothing => resume s
  | .illegal r => .refused r
  | .operation i t => exec i t

/-- One step. -/
def step (s : State) : Host.Outcome State Fault Refusal :=
  match takeTurn s with
  | .other t => .next t
  | .engine t => engineStep t

/-- The table word presented, at the engine's turn; the table's words are those of the default layout. -/
def State.withFetchWord (s : State) (nbits w : Nat) : State :=
  { s with port := some (issueOfTable nbits w), turns := .eng :: s.turns }

end Sys2Proof.Machine
end

