-- ==== Sys2Proof/Safety.lean ====
section
/-! DEFINITION. What counts as a safe state and a well-behaved frame, in the terms the statements use. -/

namespace Sys2Proof.Machine

/-- What holds of the controller, the signal and the engine's record in every state a run reaches, inside an operation too. -/
structure Consistent (s : State) : Prop where
  /-- The write FIFO holds at most `WFIFO_DEPTH` bytes (10_state.md R25). -/
  wfifoFits : s.ctl.wfifo.length ≤ s.cfg.wfifoDepth
  /-- The read FIFO holds at most `RFIFO_DEPTH` bytes (10_state.md R26). -/
  rfifoFits : s.ctl.rfifo.length ≤ s.cfg.rfifoDepth
  /-- While `RST` or `FRST` is 1 the FIFOs are held empty, there is no frame and `TXEN` is 0 (40_register_ops.md R81). -/
  heldEmpty : s.ctl.rst = true ∨ s.ctl.frst = true →
    s.ctl.wfifo = [] ∧ s.ctl.rfifo = [] ∧ s.ctl.frame = { active := false, eofDone := false } ∧ s.ctl.txen = false
  /-- The controller's own frame is activity on the wire (48_controller_agent.md R212). -/
  frameBusy : s.ctl.frame.active = true → s.busIdle = false
  /-- Only a frame in progress can be an invalidated one (41_config.md R113). -/
  invalidatedFrame : s.ctl.invalidated = true → s.ctl.frame.active = true
  /-- `bitrate` is 0 or was admitted by CONFIGURE (10_state.md R13). -/
  bitrateAdmitted : s.eng.bitrate = 0 ∨ validBitrate s.cfg s.eng.bitrate = true
  /-- In POLLED mode there is no signal, no handler and no mask change (44_completion_waiter.md R144). -/
  polledQuiet : s.cfg.mode = .polled → s.sig = false ∧ s.isr.next = .h0 ∧ s.irqMask = true

/-- The invariant between two operations: consistent, and the engine idle with no call under way (10_state.md R19). -/
structure Inv (s : State) : Prop where
  consistent : Consistent s
  engineIdle : s.eng.phase = .idle
  noCalls : s.eng.calls = []

/-- `valid(bitrate)` in the words of the rules: not 0, and a divisor that the two registers can hold (41_config.md R112, 30_encoding.md R68). -/
abbrev AdmittedBitrate (p : Params) (br : Word) : Prop :=
  br ≠ 0 ∧ p.maxCoreClock / br.toNat < 65536 ∧
    BitVec.ofNat 8 (p.maxCoreClock / br.toNat / 256) &&& ~~~p.btHighMask = 0

/-- A well-formed request in the words of 10_state.md R15, with the tighter bound of 30_encoding.md R65. -/
abbrev WellFormedRequest (p : Params) (r : Request) : Prop :=
  r.writePayload.length ≤ p.maxPayload ∧ (p.maxPayload ≤ if p.txlenIncludesCmd then 254 else 255) ∧
    r.expectedLength.toNat ≤ 255

/-- No other agent takes a turn: the steps are the engine's alone. -/
abbrev Quiet (s : State) : Prop := s.turns = []

/-- Nothing changed but the engine, the controller, the draws and the outputs. -/
abbrev SameOutside (s t : State) : Prop :=
  t.cfg = s.cfg ∧ t.busIdle = s.busIdle ∧ t.sig = s.sig ∧ t.irqMask = s.irqMask ∧ t.isr = s.isr ∧
    t.inIsr = s.inIsr ∧ t.port = s.port ∧ t.turns = s.turns

/-- `RSP` after an operation that does not write it and uses no other draw: kept after Ok, a free value after Err (10_state.md R16, log 7). -/
abbrev ResponseSettled (s t : State) : Prop :=
  t.eng.rsp = (if t.eng.res = .ok then s.eng.rsp else Config.freeResponse s.draws) ∧
    t.draws = s.draws + if t.eng.res = .ok then 0 else 1

/-- `CONTROL` is powered up and out of both resets. -/
abbrev Running (s : State) : Prop := s.ctl.pd = false ∧ s.ctl.rst = false ∧ s.ctl.frst = false

/-- The turns of one well-behaved frame, the profile WB (48_controller_agent.md R214): every byte of the write FIFO goes out, `EOF`, the received stream, the end of the frame, an idle wire. DESIGN CHOICE (log 22): `EOF` comes before the received bytes. -/
def wellBehavedFrame (sent : Nat) (received : List Byte) : List Turn :=
  .ctlStart :: List.replicate sent .ctlTx ++ .ctlEof :: received.map .ctlRx ++ [.ctlEnd, .envBus true]

/-- The bytes WRITE pushes for a request, in push order (30_encoding.md R64). -/
def frameBytes (p : Params) (r : Request) : List Byte :=
  [r.targetAddress, txlen p r, rxlen r] ++ if txlen p r = 0 then [] else r.commandCode :: r.writePayload

/-- The engine steps of WRITE before the settle delay when the wire is idle at the first poll: W1, W2, W3, W4, W5, W6. -/
def stepsBeforeSettle (p : Params) (r : Request) : Nat :=
  9 + if txlen p r = 0 then 0 else 1 + 2 * r.writePayload.length

/-- What a well-behaved frame delivers for a request, a payload and the two checksum bytes: `wfcs` only when both length bytes are 0 (48_controller_agent.md R214, 30_encoding.md R67). -/
def wireStream (p : Params) (r : Request) (wfcs rfcs : Byte) (payload : List Byte) : List Byte :=
  if txlen p r = 0 ∧ rxlen r = 0 then [wfcs] else wfcs :: (payload ++ [rfcs])

/-- The response of a TRANSFER to which that stream was delivered (45_reader.md R157, R158). -/
def returnedBytes (p : Params) (r : Request) (wfcs : Byte) (payload : List Byte) : List Byte :=
  if r.commandCode = p.pingCmd then [wfcs] else payload

/-- What such a TRANSFER leaves of the stream in the read FIFO (45_reader.md R158, R161; 70_reset_and_hazards.md R273). -/
def unreadBytes (p : Params) (r : Request) (wfcs rfcs : Byte) (payload : List Byte) : List Byte :=
  if r.commandCode = p.pingCmd then (wireStream p r wfcs rfcs payload).tail
  else if r.expectedLength = 0 then wireStream p r wfcs rfcs payload else []

/-- A controller ready for a frame: running, idle, nothing left over, room for the whole frame of the request. -/
structure CleanForTransfer (s : State) (r : Request) : Prop where
  pd : s.ctl.pd = false
  rst : s.ctl.rst = false
  idleWire : s.busIdle = true
  eof : s.ctl.eof = false
  error : s.ctl.error = 0
  txen : s.ctl.txen = false
  noFrame : s.ctl.frame.active = false
  wfifo : s.ctl.wfifo = []
  rfifo : s.ctl.rfifo = []
  room : headerLen + 1 + r.writePayload.length ≤ s.cfg.wfifoDepth

/-- The outcome of a TRANSFER under a well-behaved frame: `Ok` with the response, the controller clean but for the unread bytes, everything else as it was. -/
structure TransferDone (s : State) (r : Request) (wfcs rfcs : Byte) (payload : List Byte) (t : State) : Prop where
  res : t.eng.res = .ok
  response : t.eng.rsp.bytes = returnedBytes s.cfg r wfcs payload
  results : t.results = s.results ++ s.cfg.errCode.ok ::
    BitVec.ofNat 8 (returnedBytes s.cfg r wfcs payload).length :: returnedBytes s.cfg r wfcs payload
  rfifo : t.ctl.rfifo = unreadBytes s.cfg r wfcs rfcs payload
  wfifo : t.ctl.wfifo = []
  eof : t.ctl.eof = false
  error : t.ctl.error = 0
  txen : t.ctl.txen = false
  pd : t.ctl.pd = false
  rst : t.ctl.rst = false
  frst : t.ctl.frst = false
  btLow : t.ctl.btLow = s.ctl.btLow
  btHigh : t.ctl.btHigh = s.ctl.btHigh
  intEn1 : t.ctl.intEn1 = s.ctl.intEn1
  intEn2 : t.ctl.intEn2 = s.ctl.intEn2
  tocnt : t.eng.tocnt = 0
  bitrate : t.eng.bitrate = s.eng.bitrate
  req : t.eng.req = r
  phase : t.eng.phase = .idle
  busIdle : t.busIdle = true
  irqMask : t.irqMask = s.irqMask
  cfg : t.cfg = s.cfg
  draws : t.draws = s.draws

/-- A register write by the engine. -/
def isEngineWrite : Event → Bool
  | .wr .eng _ _ => true
  | _ => false

/-- A register access by the engine. -/
def isEngineAccess : Event → Bool
  | .rd .eng _ _ => true
  | .wr .eng _ _ => true
  | _ => false

/-- The value of a read of `ERROR` by the engine. -/
def errorRead : Event → Option Byte
  | .rd .eng .error v => some v
  | _ => none

/-- The value of a write of `ERROR` by the engine. -/
def errorWritten : Event → Option Byte
  | .wr .eng .error v => some v
  | _ => none

/-- The class of an error record. -/
def loggedClass : Event → Option ErrorClass
  | .log (.errorClass c) => some c
  | _ => none

/-- The records of an error value: one for each named bit that is set, in the order RBOR, WBUR, BERR (46_finish_recover.md R171). -/
def errorClasses (l : Layout) (e : Byte) : List ErrorClass :=
  (if e.getLsbD l.rbor then [.rbor] else []) ++ (if e.getLsbD l.wbur then [.wbur] else [])
    ++ if e.getLsbD l.berr then [.berr] else []

/-- A pop of the read FIFO by the engine. -/
def isEnginePop : Event → Bool
  | .rd .eng .rdData _ => true
  | _ => false

/-- The byte an event puts on the wire, if it does. -/
def sentByte : Event → Option Byte
  | .wireTx b => some b
  | _ => none

/-- The moves of CTL (48_controller_agent.md R206 to R211): what R205 gates. -/
def isFrameMove : Turn → Bool
  | .ctlStart | .ctlTx | .ctlUnderrun | .ctlEof | .ctlEnd | .ctlRx _ | .ctlErr _ => true
  | _ => false

/-- The operations of family REG. -/
def isRegister : Instr → Bool
  | .rdControl | .wrControl _ | .rdStatus1 | .wrStatus1 _ | .rdStatus2 | .wrStatus2 _ | .rdError
  | .wrError _ | .rdWrData | .wrWrData _ | .rdRdData | .wrRdData _ | .rdBtLow | .wrBtLow _
  | .rdBtHigh | .wrBtHigh _ | .rdIntEn1 | .wrIntEn1 _ | .rdIntEn2 | .wrIntEn2 _ => true
  | _ => false

/-- The operations the engine runs from `IDLE` to `IDLE`: the public ones and the internal ones but the handler. -/
def isEngineOperation : Instr → Bool
  | .configure _ | .enable | .disable | .transfer _ | .waitIdle | .write | .waitPoll | .waitEvent
  | .read | .finish | .recoverFifo | .recoverFull => true
  | _ => false

end Sys2Proof.Machine
end

