-- ==== Sys2Proof/Certificates/Slice0/Obligations.lean ====
section
/-! DEFINITION. The statements for the provers. "Any schedule" means that nothing is assumed of `turns`: the other agents move as they like between the engine's steps. "Quiet" means that no other agent moves. -/

open Sys2Proof Sys2Proof.Machine

/-! Family REG. -/

/-- `RD_CONTROL` (R80): its word, the four fields at their bits in any layout, the reserved bits 0, nothing else changed; after reset it returns 0x01. Basis: the reserved bits are decision D11, the reset value decision D38, the word decision D37 of 92_eei_decisions.md. -/
def Obligations.ReadControlShowsFourFields : Prop :=
  (∀ d : Byte, decodeBus Layout.default (0x00#8 ++ d) = some .rdControl) ∧
  (∀ s : State, ∃ v : Byte,
    exec .rdControl s = .next { s with rdata := v, history := .rd .host .control v :: s.history } ∧
    v.getLsbD s.cfg.layout.pd = s.ctl.pd ∧ v.getLsbD s.cfg.layout.rst = s.ctl.rst ∧
    v.getLsbD s.cfg.layout.frst = s.ctl.frst ∧ v.getLsbD s.cfg.layout.txen = s.ctl.txen ∧
    (∀ k : Fin 8, k ∉ [s.cfg.layout.pd, s.cfg.layout.rst, s.cfg.layout.frst, s.cfg.layout.txen] →
      v.getLsbD k = false)) ∧
  (∀ t : State, exec .rdControl State.reset = .next t → t.rdata = 0x01) ∧
  (∃ t : State, exec .rdControl State.reset = .next t)

/-- `WR_CONTROL` (R81): the four fields; without a reset bit nothing else changes; `FRST` empties the FIFOs, drops the frame and clears `TXEN`; `RST` does that too, clears `EOF` and `ERROR` if `RST_CLEARS_STATUS`, and loses the bit timing, which is then any value. Basis: the effects of the two resets are the spec's decisions D6 to D9, the word decision D37; the draws are the model's free values (log 6). -/
def Obligations.WriteControlAppliesResets : Prop :=
  (∀ v : Byte, decodeBus Layout.default (0x80#8 ++ v) = some (.wrControl v)) ∧
  ∀ (v : Byte) (s : State), ∃ t : State, exec (.wrControl v) s = .next t ∧
    t.ctl.pd = v.getLsbD s.cfg.layout.pd ∧ t.ctl.rst = v.getLsbD s.cfg.layout.rst ∧ t.ctl.frst = v.getLsbD s.cfg.layout.frst ∧
    t.ctl.txen = (v.getLsbD s.cfg.layout.txen && !v.getLsbD s.cfg.layout.rst &&
      !v.getLsbD s.cfg.layout.frst) ∧
    (v.getLsbD s.cfg.layout.rst = false → v.getLsbD s.cfg.layout.frst = false →
      t.ctl = { s.ctl with
        pd := v.getLsbD s.cfg.layout.pd, rst := false, frst := false, txen := v.getLsbD s.cfg.layout.txen } ∧
      t.draws = s.draws) ∧
    (v.getLsbD s.cfg.layout.rst = true ∨ v.getLsbD s.cfg.layout.frst = true →
      t.ctl.wfifo = [] ∧ t.ctl.rfifo = [] ∧ t.ctl.frame = { active := false, eofDone := false }) ∧
    (v.getLsbD s.cfg.layout.rst = true → s.cfg.rstClearsStatus = true → t.ctl.eof = false ∧ t.ctl.error = 0) ∧
    (v.getLsbD s.cfg.layout.rst = false ∨ s.cfg.rstClearsStatus = false →
      t.ctl.eof = s.ctl.eof ∧ t.ctl.error = s.ctl.error) ∧
    (v.getLsbD s.cfg.layout.rst = false →
      t.ctl.btLow = s.ctl.btLow ∧ t.ctl.btHigh = s.ctl.btHigh ∧ t.draws = s.draws) ∧
    (v.getLsbD s.cfg.layout.rst = true → t.ctl.btLow = Config.freeByte s.draws ∧
      t.ctl.btHigh = Config.freeByte (s.draws + 1) ∧ t.draws = s.draws + 2) ∧
    t.ctl.intEn1 = s.ctl.intEn1 ∧ t.ctl.intEn2 = s.ctl.intEn2 ∧
    t = { s with ctl := t.ctl, draws := t.draws, history := .wr .host .control v :: s.history }

/-- `RD_STATUS1` and `WR_STATUS1` (R82, R83): the read shows `EOF` and clears nothing; the write clears `EOF` where its bit (bit 0 in the default layout) is 1, sets nothing and ignores the other bits. -/
def Obligations.Status1IsWriteOneToClear : Prop :=
  (∀ d : Byte, decodeBus Layout.default (0x01#8 ++ d) = some .rdStatus1) ∧
  (∀ v : Byte, decodeBus Layout.default (0x81#8 ++ v) = some (.wrStatus1 v)) ∧
  (∀ s : State, exec .rdStatus1 s = .next { s with
    rdata := if s.ctl.eof then bit s.cfg.layout.eof else 0x00
    history := .rd .host .status1 (if s.ctl.eof then bit s.cfg.layout.eof else 0x00) :: s.history }) ∧
  ∀ (v : Byte) (s : State), exec (.wrStatus1 v) s = .next { s with
    ctl := { s.ctl with eof := s.ctl.eof && !v.getLsbD s.cfg.layout.eof }
    history := .wr .host .status1 v :: s.history }

/-- `RD_STATUS2` and `WR_STATUS2` (R84, R85): each bit is its occupancy predicate or the idle condition, the three other bits are 0; the write does nothing; with a depth of 1 exactly one of `WFE` and `WFF` is 1, and under either reset both FIFOs read empty. Basis: the definitions of the bits are decisions D3 and D8, the write decision D10, the words decision D37. -/
def Obligations.Status2IsComputedAtTheRead : Prop :=
  (∀ d : Byte, decodeBus Layout.default (0x02#8 ++ d) = some .rdStatus2) ∧
  (∀ v : Byte, decodeBus Layout.default (0x82#8 ++ v) = some (.wrStatus2 v)) ∧
  (∀ s : State, ∃ v : Byte,
    exec .rdStatus2 s = .next { s with rdata := v, history := .rd .host .status2 v :: s.history } ∧
    v.getLsbD s.cfg.layout.idle = (s.busIdle || s.ctl.pd) ∧
    (v.getLsbD s.cfg.layout.wff = true ↔ s.ctl.wfifo.length = s.cfg.wfifoDepth) ∧
    (v.getLsbD s.cfg.layout.wfe = true ↔ s.ctl.wfifo.length = 0) ∧
    (v.getLsbD s.cfg.layout.rff = true ↔ s.ctl.rfifo.length = s.cfg.rfifoDepth) ∧
    (v.getLsbD s.cfg.layout.rfe = true ↔ s.ctl.rfifo.length = 0) ∧
    (∀ k : Fin 8, k ∉ [s.cfg.layout.idle, s.cfg.layout.wff, s.cfg.layout.wfe, s.cfg.layout.rff, s.cfg.layout.rfe] →
      v.getLsbD k = false) ∧
    (Consistent s → s.cfg.wfifoDepth = 1 → v.getLsbD s.cfg.layout.wff = !v.getLsbD s.cfg.layout.wfe) ∧
    (Consistent s → s.ctl.rst = true ∨ s.ctl.frst = true →
      v.getLsbD s.cfg.layout.wfe = true ∧ v.getLsbD s.cfg.layout.rfe = true)) ∧
  ∀ (v : Byte) (s : State), exec (.wrStatus2 v) s = .next { s with history := .wr .host .status2 v :: s.history }

/-- `RD_ERROR` and `WR_ERROR` (R86, R87): the read shows all eight bits and clears nothing; the write clears the bits written as 1 and sets none. -/
def Obligations.ErrorIsWriteOneToClear : Prop :=
  (∀ d : Byte, decodeBus Layout.default (0x03#8 ++ d) = some .rdError) ∧
  (∀ v : Byte, decodeBus Layout.default (0x83#8 ++ v) = some (.wrError v)) ∧
  (∀ s : State, exec .rdError s = .next { s with
    rdata := s.ctl.error, history := .rd .host .error s.ctl.error :: s.history }) ∧
  ∀ (v : Byte) (s : State), exec (.wrError v) s = .next { s with
    ctl := { s.ctl with error := s.ctl.error &&& ~~~v }
    history := .wr .host .error v :: s.history }

/-- `RD_WRDATA` and `WR_WRDATA` (R88, R89): the read returns a draw and changes nothing of the block; the write pushes at the tail, is discarded under `RST` or `FRST` and is dropped by a full FIFO; `PD` does not matter. Basis: decisions D5, D6, D10 and D37; the draw is the model's free value (log 6). -/
def Obligations.WriteDataPushesOrDrops : Prop :=
  (∀ d : Byte, decodeBus Layout.default (0x04#8 ++ d) = some .rdWrData) ∧
  (∀ b : Byte, decodeBus Layout.default (0x84#8 ++ b) = some (.wrWrData b)) ∧
  (∀ s : State, exec .rdWrData s = .next { s with
    rdata := Config.freeByte s.draws, draws := s.draws + 1
    history := .rd .host .wrData (Config.freeByte s.draws) :: s.history }) ∧
  ∀ (b : Byte) (s : State), exec (.wrWrData b) s = .next { s with
    ctl := { s.ctl with wfifo :=
      if s.ctl.rst = true ∨ s.ctl.frst = true ∨ s.ctl.wfifo.length = s.cfg.wfifoDepth then s.ctl.wfifo
      else s.ctl.wfifo ++ [b] }
    history := .wr .host .wrData b :: s.history }

/-- `RD_RDDATA` and `WR_RDDATA` (R90, R91): the read pops the head of the read FIFO, from an empty one it returns a draw and changes nothing of the block; the write does nothing. Basis: decisions D10 and D37; the draw is the model's free value (log 6). -/
def Obligations.ReadDataPops : Prop :=
  (∀ d : Byte, decodeBus Layout.default (0x05#8 ++ d) = some .rdRdData) ∧
  (∀ v : Byte, decodeBus Layout.default (0x85#8 ++ v) = some (.wrRdData v)) ∧
  (∀ (s : State) (b : Byte) (rest : List Byte), s.ctl.rfifo = b :: rest →
    exec .rdRdData s = .next { s with
      ctl := { s.ctl with rfifo := rest }, rdata := b, history := .rd .host .rdData b :: s.history }) ∧
  (∀ s : State, s.ctl.rfifo = [] → exec .rdRdData s = .next { s with
    rdata := Config.freeByte s.draws, draws := s.draws + 1
    history := .rd .host .rdData (Config.freeByte s.draws) :: s.history }) ∧
  ∀ (v : Byte) (s : State), exec (.wrRdData v) s = .next { s with history := .wr .host .rdData v :: s.history }

/-- The bit-timing registers (R92 to R95) are plain storage of eight bits. That a write under an active frame marks the frame as invalidated is the model's form of R93 and R113 (log 15). Basis: decisions D47 and D37. -/
def Obligations.BitTimingIsStorage : Prop :=
  (∀ d : Byte, decodeBus Layout.default (0x06#8 ++ d) = some .rdBtLow ∧ decodeBus Layout.default (0x86#8 ++ d) = some (.wrBtLow d) ∧
    decodeBus Layout.default (0x07#8 ++ d) = some .rdBtHigh ∧ decodeBus Layout.default (0x87#8 ++ d) = some (.wrBtHigh d)) ∧
  (∀ s : State,
    exec .rdBtLow s = .next { s with
      rdata := s.ctl.btLow, history := .rd .host .btLow s.ctl.btLow :: s.history } ∧
    exec .rdBtHigh s = .next { s with
      rdata := s.ctl.btHigh, history := .rd .host .btHigh s.ctl.btHigh :: s.history }) ∧
  ∀ (v : Byte) (s : State),
    exec (.wrBtLow v) s = .next { s with
      ctl := { s.ctl with btLow := v, invalidated := s.ctl.invalidated || s.ctl.frame.active }
      history := .wr .host .btLow v :: s.history } ∧
    exec (.wrBtHigh v) s = .next { s with
      ctl := { s.ctl with btHigh := v, invalidated := s.ctl.invalidated || s.ctl.frame.active }
      history := .wr .host .btHigh v :: s.history }

/-- The interrupt enables (R96 to R99) are plain storage, and the line follows at once (R29): bit k of an enable register enables bit k of its status register. Basis: decisions D12, D13 and D37. -/
def Obligations.InterruptEnablesDriveTheLine : Prop :=
  (∀ d : Byte, decodeBus Layout.default (0x08#8 ++ d) = some .rdIntEn1 ∧ decodeBus Layout.default (0x88#8 ++ d) = some (.wrIntEn1 d) ∧
    decodeBus Layout.default (0x09#8 ++ d) = some .rdIntEn2 ∧ decodeBus Layout.default (0x89#8 ++ d) = some (.wrIntEn2 d)) ∧
  (∀ s : State,
    exec .rdIntEn1 s = .next { s with
      rdata := s.ctl.intEn1, history := .rd .host .intEn1 s.ctl.intEn1 :: s.history } ∧
    exec .rdIntEn2 s = .next { s with
      rdata := s.ctl.intEn2, history := .rd .host .intEn2 s.ctl.intEn2 :: s.history }) ∧
  (∀ (v : Byte) (s : State),
    exec (.wrIntEn1 v) s = .next { s with
      ctl := { s.ctl with intEn1 := v }, history := .wr .host .intEn1 v :: s.history } ∧
    exec (.wrIntEn2 v) s = .next { s with
      ctl := { s.ctl with intEn2 := v }, history := .wr .host .intEn2 v :: s.history }) ∧
  ∀ s : State, irqLine s = true ↔
    (s.ctl.eof = true ∧ s.ctl.intEn1.getLsbD s.cfg.layout.eof = true) ∨
    ((s.busIdle = true ∨ s.ctl.pd = true) ∧ s.ctl.intEn2.getLsbD s.cfg.layout.idle = true) ∨
    (s.ctl.wfifo.length = s.cfg.wfifoDepth ∧ s.ctl.intEn2.getLsbD s.cfg.layout.wff = true) ∨
    (s.ctl.wfifo = [] ∧ s.ctl.intEn2.getLsbD s.cfg.layout.wfe = true) ∨
    (s.ctl.rfifo.length = s.cfg.rfifoDepth ∧ s.ctl.intEn2.getLsbD s.cfg.layout.rff = true) ∨
    (s.ctl.rfifo = [] ∧ s.ctl.intEn2.getLsbD s.cfg.layout.rfe = true)

/-- Every register operation completes whatever `PD`, `RST` and `FRST` are (R100), and touches the controller's registers, the free-value count and the two records of the access alone. Basis: the rule is derived in the spec; the two records are the model's outputs (log 13). -/
def Obligations.RegisterOperationsAlwaysComplete : Prop :=
  ∀ (i : Instr) (s : State), isRegister i = true → ∃ t : State, exec i s = .next t ∧
    t = { s with ctl := t.ctl, rdata := t.rdata, history := t.history, draws := t.draws } ∧
    (∃ x : Event, t.history = x :: s.history) ∧
    (s.ctl.intEn1 = t.ctl.intEn1 ∨ ∃ v, i = .wrIntEn1 v) ∧
    (s.ctl.intEn2 = t.ctl.intEn2 ∨ ∃ v, i = .wrIntEn2 v)

/-! CONFIGURE, ENABLE, DISABLE. -/

/-- An operation of the engine issued while `phase ≠ IDLE` is refused (R194); the refusal carries no state. Basis: decision D34; that the internal operations are refused too is the model's choice (log 8). -/
def Obligations.BusyEngineRefusesOperations : Prop :=
  ∀ (i : Instr) (s : State), isEngineOperation i = true → s.eng.phase ≠ .idle →
    exec i s = .refused .busy

/-- CONFIGURE of an admitted bitrate runs, of any other is refused (R112). Basis: decision D30. -/
def Obligations.ConfigureRefusesInvalidBitrate : Prop :=
  ∀ (br : Word) (s : State), s.eng.phase = .idle →
    (AdmittedBitrate s.cfg br → ∃ t : State, exec (.configure br) s = .next t) ∧
    (¬ AdmittedBitrate s.cfg br → exec (.configure br) s = .refused .invalidBitrate)

/-- CONFIGURE under any schedule (R110, R111): the divisor by floor division in the two registers, powered up at the end whatever `PD` was, the other control bits as they were, the bitrate stored, `Ok` on the result port, and its frame. With `RST = 1` the bit timing does not survive (R81), so it is stated for `RST = 0`. Basis: decisions D30, D32 and D36. -/
def Obligations.ConfigureProgramsTheDivisor : Prop :=
  ∀ (br : Word) (s : State), s.eng.phase = .idle → AdmittedBitrate s.cfg br →
    ∃ t : State, exec (.configure br) s = .next t ∧
      t.eng.bitrate = br ∧ t.eng.res = .ok ∧ t.eng.phase = .idle ∧
      t.results = s.results ++ [s.cfg.errCode.ok] ∧
      t.ctl.pd = false ∧ t.ctl.rst = s.ctl.rst ∧ t.ctl.frst = s.ctl.frst ∧
      (s.ctl.rst = false →
        t.ctl.btLow = BitVec.ofNat 8 (s.cfg.maxCoreClock / br.toNat) ∧
        t.ctl.btHigh = BitVec.ofNat 8 (s.cfg.maxCoreClock / br.toNat / 256) &&& s.cfg.btHighMask) ∧
      t.eng.tocnt = s.eng.tocnt ∧ t.eng.req = s.eng.req ∧ t.eng.rsp = s.eng.rsp ∧ t.cfg = s.cfg ∧
      t.irqMask = s.irqMask ∧ t.ctl.intEn1 = s.ctl.intEn1 ∧ t.ctl.intEn2 = s.ctl.intEn2

/-- The access sequence of CONFIGURE (V40), quiet: six accesses, four writes, `CONTROL` by read-modify-write, low byte before high; and everything it leaves alone. Basis: decision D32; the invalidated frame is the model's (log 15). -/
def Obligations.ConfigureAccessSequence : Prop :=
  ∀ (br : Word) (s : State), s.eng.phase = .idle → AdmittedBitrate s.cfg br → Quiet s → Consistent s →
    s.ctl.rst = false →
    ∃ t : State, exec (.configure br) s = .next t ∧
      t.history = [.wr .eng .control (controlByte s.cfg.layout { s.ctl with pd := false }),
        .rd .eng .control (controlByte s.cfg.layout { s.ctl with pd := true }),
        .wr .eng .btHigh (BitVec.ofNat 8 (s.cfg.maxCoreClock / br.toNat / 256) &&& s.cfg.btHighMask),
        .wr .eng .btLow (BitVec.ofNat 8 (s.cfg.maxCoreClock / br.toNat)),
        .wr .eng .control (controlByte s.cfg.layout { s.ctl with pd := true }),
        .rd .eng .control (controlByte s.cfg.layout s.ctl)] ++ s.history ∧
      t.ctl = { s.ctl with
        pd := false
        btLow := BitVec.ofNat 8 (s.cfg.maxCoreClock / br.toNat)
        btHigh := BitVec.ofNat 8 (s.cfg.maxCoreClock / br.toNat / 256) &&& s.cfg.btHighMask
        invalidated := s.ctl.invalidated || s.ctl.frame.active } ∧
      t.busIdle = s.busIdle ∧ t.sig = s.sig ∧ t.isr = s.isr ∧ t.port = s.port ∧ t.draws = s.draws

/-- ENABLE under any schedule (R191): powered up, unmasked in EVENT mode only, `Ok`; neither reset bit, the bit timing nor the engine's record changes. Basis: decisions D13, D33 and D36. -/
def Obligations.EnablePowersUpAndUnmasks : Prop :=
  ∀ s : State, s.eng.phase = .idle → ∃ t : State, exec .enable s = .next t ∧
    t.ctl.pd = false ∧ t.ctl.rst = s.ctl.rst ∧ t.ctl.frst = s.ctl.frst ∧
    (s.cfg.mode = .event → t.irqMask = false) ∧ (s.cfg.mode = .polled → t.irqMask = s.irqMask) ∧
    t.eng.res = .ok ∧ t.eng.phase = .idle ∧ t.results = s.results ++ [s.cfg.errCode.ok] ∧
    (s.ctl.rst = false → t.ctl.btLow = s.ctl.btLow ∧ t.ctl.btHigh = s.ctl.btHigh) ∧
    t.eng.bitrate = s.eng.bitrate ∧ t.eng.tocnt = s.eng.tocnt ∧ t.eng.req = s.eng.req ∧
    t.eng.rsp = s.eng.rsp ∧ t.cfg = s.cfg ∧ t.ctl.intEn1 = s.ctl.intEn1 ∧ t.ctl.intEn2 = s.ctl.intEn2 ∧
    (Quiet s → Consistent s → s.ctl.rst = false → t.ctl = { s.ctl with pd := false } ∧
      t.history = [.wr .eng .control (controlByte s.cfg.layout { s.ctl with pd := false }),
        .rd .eng .control (controlByte s.cfg.layout s.ctl)] ++ s.history ∧
      t.sig = s.sig ∧ t.busIdle = s.busIdle ∧ t.isr = s.isr ∧ t.draws = s.draws)

/-- DISABLE (R192). Under any schedule: `Ok` with the controller powered down and the line masked in EVENT mode, or `BusBusy` with power and mask as they were; the code on the result port; its frame. Quiet: powered down already or with an idle wire, `Ok` after one read of `STATUS2`, which shows idle, and the power-down; powered up with a busy wire, `BusBusy` after `IDLE_ATTEMPTS` reads of `STATUS2` with a delay each, and no register written. Basis: decisions D8, D14, D33 and D36. -/
def Obligations.DisableChecksIdleThenPowersDown : Prop :=
  ∀ s : State, s.eng.phase = .idle → ∃ t : State, exec .disable s = .next t ∧
    t.eng.phase = .idle ∧ t.results = s.results ++ [resultCode s.cfg t.eng.res] ∧
    ((t.eng.res = .ok ∧ t.ctl.pd = true ∧ t.irqMask = (if s.cfg.mode = .event then true else s.irqMask) ∧
        t.eng.rsp = s.eng.rsp) ∨
     (t.eng.res = .err .busBusy ∧ t.ctl.pd = s.ctl.pd ∧ t.irqMask = s.irqMask ∧ ResponseSettled s t)) ∧
    t.ctl.rst = s.ctl.rst ∧ t.ctl.frst = s.ctl.frst ∧
    (s.ctl.rst = false → t.ctl.btLow = s.ctl.btLow ∧ t.ctl.btHigh = s.ctl.btHigh) ∧
    t.eng.bitrate = s.eng.bitrate ∧ t.eng.tocnt = s.eng.tocnt ∧ t.eng.req = s.eng.req ∧
    t.cfg = s.cfg ∧ t.ctl.intEn1 = s.ctl.intEn1 ∧ t.ctl.intEn2 = s.ctl.intEn2 ∧
    (Quiet s → 1 ≤ s.cfg.idleAttempts →
      t.sig = s.sig ∧ t.busIdle = s.busIdle ∧ t.isr = s.isr ∧
      (s.ctl.pd = true ∨ s.busIdle = true →
        t.eng.res = .ok ∧ t.ctl.pd = true ∧
        t.history = [.wr .eng .control (controlByte s.cfg.layout { s.ctl with pd := true }),
          .rd .eng .control (controlByte s.cfg.layout s.ctl), .rd .eng .status2 (status2Byte s)] ++ s.history ∧
        (Consistent s → s.ctl.rst = false → t.ctl = { s.ctl with pd := true } ∧ t.draws = s.draws)) ∧
      (s.ctl.pd = false → s.busIdle = false →
        t.eng.res = .err .busBusy ∧ t.ctl = s.ctl ∧
        t.history = (List.replicate s.cfg.idleAttempts
          [Event.delayUs s.cfg.idlePollUs, .rd .eng .status2 (status2Byte s)]).flatten ++ s.history))

/-- "calling `disable()` twice in a row succeeds both times": DISABLE of a powered-down controller succeeds whatever the wire and the other agents do, and one that succeeds leaves it powered down. Basis: it rests on decision D8. -/
def Obligations.DisableTwiceSucceeds : Prop :=
  ∀ s : State, s.eng.phase = .idle → 1 ≤ s.cfg.idleAttempts → s.ctl.pd = true →
    ∃ t : State, exec .disable s = .next t ∧ t.eng.res = .ok ∧ t.ctl.pd = true ∧
      ∃ u : State, exec .disable t = .next u ∧ u.eng.res = .ok ∧ u.ctl.pd = true

/-! WAIT_IDLE and the completion waits. -/

/-- WAIT_IDLE, quiet (R120): one read and `Ok` when the idle bit shows 1, else exactly `IDLE_ATTEMPTS` reads each followed by one delay, and `BusBusy`; no register changes. Basis: decision D14. -/
def Obligations.WaitIdlePollsExactly : Prop :=
  ∀ s : State, s.eng.phase = .idle → 1 ≤ s.cfg.idleAttempts → Quiet s →
    ∃ t : State, exec .waitIdle s = .next t ∧ t.eng.phase = .idle ∧
      t.ctl = s.ctl ∧ t.busIdle = s.busIdle ∧ t.sig = s.sig ∧ t.irqMask = s.irqMask ∧ t.isr = s.isr ∧
      t.results = s.results ∧ ResponseSettled s t ∧ t.eng.tocnt = s.eng.tocnt ∧
      t.eng.bitrate = s.eng.bitrate ∧ t.eng.req = s.eng.req ∧
      (s.ctl.pd = true ∨ s.busIdle = true →
        t.eng.res = .ok ∧ t.history = .rd .eng .status2 (status2Byte s) :: s.history) ∧
      (s.ctl.pd = false → s.busIdle = false →
        t.eng.res = .err .busBusy ∧
        t.history = (List.replicate s.cfg.idleAttempts
          [Event.delayUs s.cfg.idlePollUs, .rd .eng .status2 (status2Byte s)]).flatten ++ s.history)

/-- WAIT_IDLE under any schedule (R120, R281): it ends in `Ok` or `BusBusy` after at least one and at most `IDLE_ATTEMPTS` reads of `STATUS2`, writes no register, and changes nothing of the engine's record. Basis: decision D14. -/
def Obligations.WaitIdleIsBounded : Prop :=
  ∀ s : State, s.eng.phase = .idle → 1 ≤ s.cfg.idleAttempts →
    ∃ (t : State) (h : List Event), exec .waitIdle s = .next t ∧ t.history = h ++ s.history ∧
      (t.eng.res = .ok ∨ t.eng.res = .err .busBusy) ∧
      1 ≤ h.countP (fun x => match x with | .rd .eng .status2 _ => true | _ => false) ∧
      h.countP (fun x => match x with | .rd .eng .status2 _ => true | _ => false) ≤ s.cfg.idleAttempts ∧
      (∀ x ∈ h, isEngineWrite x = false) ∧
      t.eng.tocnt = s.eng.tocnt ∧ t.eng.bitrate = s.eng.bitrate ∧ t.eng.req = s.eng.req ∧
      ResponseSettled s t ∧ t.eng.phase = .idle ∧ t.cfg = s.cfg ∧
      t.ctl.pd = s.ctl.pd ∧ t.ctl.rst = s.ctl.rst ∧ t.ctl.frst = s.ctl.frst ∧
      t.ctl.btLow = s.ctl.btLow ∧ t.ctl.btHigh = s.ctl.btHigh

/-- WAIT_POLL, quiet (R141): one read and `Ok` when `EOF` is set, which stays set; else exactly `TX_POLL_ATTEMPTS` reads each followed by one delay, and `Timeout`. Basis: decision D14. -/
def Obligations.WaitPollPollsExactly : Prop :=
  ∀ s : State, s.eng.phase = .idle → 1 ≤ s.cfg.txPollAttempts → Quiet s →
    ∃ t : State, exec .waitPoll s = .next t ∧ t.eng.phase = .idle ∧
      t.ctl = s.ctl ∧ t.busIdle = s.busIdle ∧ t.sig = s.sig ∧ t.irqMask = s.irqMask ∧ t.isr = s.isr ∧
      t.results = s.results ∧ ResponseSettled s t ∧ t.eng.tocnt = s.eng.tocnt ∧
      t.eng.bitrate = s.eng.bitrate ∧ t.eng.req = s.eng.req ∧
      (s.ctl.eof = true →
        t.eng.res = .ok ∧ t.history = .rd .eng .status1 (bit s.cfg.layout.eof) :: s.history) ∧
      (s.ctl.eof = false →
        t.eng.res = .err .timeout ∧
        t.history = (List.replicate s.cfg.txPollAttempts
          [Event.delayUs s.cfg.txPollUs, .rd .eng .status1 0x00]).flatten ++ s.history)

/-- Either completion strategy under any schedule (R140): exactly one of success and `Timeout`; the polled one succeeds on a read of `EOF` as 1, the event-driven one makes no access; the timeout counter, the control bits and the bit timing are not touched, no register is written. Basis: that the response is a free value after `Timeout` is decision D25 (R16, log 7); WAIT_EVENT by itself in POLLED mode is the model's choice (log 8). -/
def Obligations.CompletionWaitsKeepTheContract : Prop :=
  ∀ (i : Instr) (s : State), i = .waitPoll ∨ i = .waitEvent → s.eng.phase = .idle →
    ∃ (t : State) (h : List Event), exec i s = .next t ∧ t.history = h ++ s.history ∧
      (t.eng.res = .ok ∨ t.eng.res = .err .timeout) ∧ (∀ x ∈ h, isEngineWrite x = false) ∧
      (i = .waitPoll → t.eng.res = .ok → Event.rd .eng .status1 (bit s.cfg.layout.eof) ∈ h) ∧
      (i = .waitEvent → ∀ x ∈ h, isEngineAccess x = false) ∧
      t.eng.tocnt = s.eng.tocnt ∧ t.eng.bitrate = s.eng.bitrate ∧ t.eng.req = s.eng.req ∧
      ResponseSettled s t ∧ t.eng.phase = .idle ∧ t.cfg = s.cfg ∧ t.results = s.results ∧
      t.ctl.pd = s.ctl.pd ∧ t.ctl.rst = s.ctl.rst ∧ t.ctl.frst = s.ctl.frst ∧
      t.ctl.btLow = s.ctl.btLow ∧ t.ctl.btHigh = s.ctl.btHigh

/-- WAIT_EVENT (R142): a signal that is there is taken at once and the slot emptied; with a zero budget and no signal it is `Timeout` at once, with no suspension; with a budget left and no signal the step `expire` gives `Timeout`, and a post by the handler gives `Ok` and empties the slot. The turn `expire` is the model's form of that choice (log 10); the free response after `Timeout` is R16 (log 7). Basis: decisions D21 and D25. -/
def Obligations.WaitEventTakesOrExpires : Prop :=
  ∀ s : State, s.eng.phase = .idle →
    (s.sig = true → exec .waitEvent s =
      .next { s with sig := false, eng := { s.eng with res := .ok } }) ∧
    (s.sig = false → (txlen s.cfg s.eng.req).toNat * s.cfg.eventUnit = 0 → exec .waitEvent s =
      .next { s with
        eng := { s.eng with res := .err .timeout, rsp := Config.freeResponse s.draws }
        draws := s.draws + 1 }) ∧
    (∀ rest, s.sig = false → (txlen s.cfg s.eng.req).toNat * s.cfg.eventUnit ≠ 0 →
      s.turns = .expire :: rest → exec .waitEvent s =
      .next { s with
        turns := rest, draws := s.draws + 1
        eng := { s.eng with res := .err .timeout, rsp := Config.freeResponse s.draws } }) ∧
    (∀ rest, s.sig = false → (txlen s.cfg s.eng.req).toNat * s.cfg.eventUnit ≠ 0 →
      s.turns = .isr :: .eng :: rest → s.isr.next = .h4 → s.isr.s2.getLsbD s.cfg.layout.wfe = true →
      s.cfg.mode = .event → irqLine s = true → s.irqMask = false → exec .waitEvent s =
      .next { s with turns := rest, isr := { s.isr with next := .h5 }, eng := { s.eng with res := .ok } })

/-- IRQ_HANDLER from its start when the line allows it, quiet (R143): three reads, the verbatim clear of `STATUS1`, `ERROR` left for FINISH. If the line is still up after the clear, the post on `WFE`, or on `RFF` when `POST_ON_RFF`, into a slot where a second post is lost; if `EOF` alone held it up, the handler stays at H4, for ISR may step only while the line is up (R29, log 9). Basis: decisions D12 and D22. -/
def Obligations.HandlerClearsStatusAndPosts : Prop :=
  ∀ s : State, Quiet s → s.isr.next = .h0 → s.cfg.mode = .event → irqLine s = true → s.irqMask = false →
    ∃ t : State, exec .irqHandler s = .next t ∧
      t.history = [.wr .isr .status1 (status1Byte s.cfg.layout s.ctl), .rd .isr .status2 (status2Byte s),
        .rd .isr .status1 (status1Byte s.cfg.layout s.ctl), .rd .isr .error s.ctl.error] ++ s.history ∧
      t.ctl = { s.ctl with eof := false } ∧
      (status2Byte s &&& s.ctl.intEn2 ≠ 0 → t.isr.next = .h0 ∧
        (t.sig = true ↔ s.sig = true ∨ s.ctl.wfifo = [] ∨
          (s.cfg.postOnRff = true ∧ s.ctl.rfifo.length = s.cfg.rfifoDepth))) ∧
      (status2Byte s &&& s.ctl.intEn2 = 0 → t.isr.next = .h4 ∧ t.sig = s.sig) ∧
      t.eng = s.eng ∧ t.busIdle = s.busIdle ∧ t.irqMask = s.irqMask ∧
      t.results = s.results ∧ t.draws = s.draws

/-- The handler takes no step in POLLED mode, with the line down, or masked, wherever it stands (R29): nothing happens. That such an invocation is a step that changes nothing is the model's choice (log 9). Basis: decisions D12 and D13. -/
def Obligations.HandlerIsNotEnteredWhenDisabled : Prop :=
  ∀ s : State, s.cfg.mode = .polled ∨ irqLine s = false ∨ s.irqMask = true →
    exec .irqHandler s = .next s

/-! WRITE and the escalation. -/

/-- A full write FIFO ends WRITE and TRANSFER with `FifoFull` after one read and no register write by the engine, under any schedule (R126); quiet, that read is the only event and no register changes. Basis: that the response is a free value after the error is decision D25 (R16, log 7), the code on the result port D36. -/
def Obligations.FifoFullWritesNothing : Prop :=
  (∀ s : State, s.eng.phase = .idle → s.ctl.wfifo.length = s.cfg.wfifoDepth →
    ∃ (t : State) (h : List Event), exec .write s = .next t ∧ t.history = h ++ s.history ∧
      t.eng.res = .err .fifoFull ∧ t.eng.tocnt = s.eng.tocnt ∧ ResponseSettled s t ∧
      (∃ v, h.filter isEngineAccess = [Event.rd .eng .status2 v]) ∧
      t.ctl.pd = s.ctl.pd ∧ t.ctl.rst = s.ctl.rst ∧ t.ctl.frst = s.ctl.frst ∧
      (Quiet s → t.ctl = s.ctl ∧ h = [.rd .eng .status2 (status2Byte s)])) ∧
  (∀ (r : Request) (s : State), s.eng.phase = .idle → WellFormedRequest s.cfg r →
    s.ctl.wfifo.length = s.cfg.wfifoDepth →
    ∃ (t : State) (h : List Event), exec (.transfer r) s = .next t ∧ t.history = h ++ s.history ∧
      t.eng.res = .err .fifoFull ∧ t.results = s.results ++ [s.cfg.errCode.fifoFull] ∧
      t.eng.tocnt = s.eng.tocnt ∧ t.eng.rsp = Config.freeResponse s.draws ∧
      (∃ v, h.filter isEngineAccess = [Event.rd .eng .status2 v]) ∧
      (Quiet s → t.ctl = s.ctl ∧ h = [.rd .eng .status2 (status2Byte s)]))

/-- WRITE against a busy wire, quiet (R128 to R130, R274): the header, the command and the payload are pushed in order, each byte dropped once the FIFO is full, and stay there; `FRST` is cleared, `TXEN` is not set, no recovery runs, `tocnt` keeps its value, the result is `BusBusy`. Basis: decisions D16, D18 and D19. -/
def Obligations.WriteBusBusyLeavesTheFrame : Prop :=
  ∀ s : State, s.eng.phase = .idle → Quiet s → Consistent s →
    s.ctl.pd = false → s.busIdle = false → s.ctl.rst = false → s.ctl.wfifo.length < s.cfg.wfifoDepth →
    ∃ t : State, exec .write s = .next t ∧ t.eng.res = .err .busBusy ∧
      t.ctl = { s.ctl with
        frst := false
        wfifo := (s.ctl.wfifo ++ frameBytes s.cfg s.eng.req).take s.cfg.wfifoDepth } ∧
      t.eng.tocnt = s.eng.tocnt ∧ t.eng.bitrate = s.eng.bitrate ∧ t.eng.req = s.eng.req ∧
      ResponseSettled s t ∧ t.eng.phase = .idle ∧ SameOutside s t ∧ t.results = s.results

/-- WRITE with a stale `EOF` and an idle wire, quiet, POLLED (R131, R272): the wait succeeds at its first read although nothing was sent; the frame stands in the FIFO, `TXEN` is set, `tocnt` is 0. Basis: decisions D16, D18, D19 and D20. -/
def Obligations.WriteSucceedsOnStaleEof : Prop :=
  ∀ s : State, s.eng.phase = .idle → Quiet s → Consistent s → s.cfg.mode = .polled →
    1 ≤ s.cfg.idleAttempts → 1 ≤ s.cfg.txPollAttempts →
    s.ctl.pd = true ∨ s.busIdle = true → s.ctl.rst = false → s.ctl.eof = true →
    s.ctl.wfifo.length < s.cfg.wfifoDepth →
    ∃ t : State, exec .write s = .next t ∧ t.eng.res = .ok ∧ t.eng.tocnt = 0 ∧
      t.ctl = { s.ctl with
        frst := false
        txen := true
        wfifo := (s.ctl.wfifo ++ frameBytes s.cfg s.eng.req).take s.cfg.wfifoDepth } ∧
      t.eng.bitrate = s.eng.bitrate ∧ t.eng.req = s.eng.req ∧ t.eng.rsp = s.eng.rsp ∧ t.eng.phase = .idle ∧
      SameOutside s t ∧ t.results = s.results ∧ t.draws = s.draws

/-- The law of `tocnt` (R12, R132) and completion of WRITE under any schedule, from a state with an admitted bitrate or with no full reset to come: cleared by success, incremented by `Timeout`, unchanged by `FifoFull` and `BusBusy`. Quiet, with room in the FIFO and an idle wire, WRITE does time out and counts it: in POLLED mode when `EOF` is 0, in EVENT mode when the signal is not there (that a turn order that runs out ends the event wait is log 10). Basis: decisions D21, D29 and D45. -/
def Obligations.WriteCountsConsecutiveTimeouts : Prop :=
  (∀ s : State, s.eng.phase = .idle →
    AdmittedBitrate s.cfg s.eng.bitrate ∨ (s.eng.tocnt + 1).toNat ≤ s.cfg.timeoutThreshold →
    ∃ t : State, exec .write s = .next t ∧ t.eng.phase = .idle ∧
      ((t.eng.res = .ok ∧ t.eng.tocnt = 0) ∨
       (t.eng.res = .err .timeout ∧ t.eng.tocnt = s.eng.tocnt + 1) ∨
       ((t.eng.res = .err .fifoFull ∨ t.eng.res = .err .busBusy) ∧ t.eng.tocnt = s.eng.tocnt)) ∧
      t.eng.bitrate = s.eng.bitrate ∧ t.eng.req = s.eng.req ∧
      (t.eng.res = .ok → t.eng.rsp = s.eng.rsp) ∧ t.cfg = s.cfg ∧
      t.irqMask = s.irqMask ∧ t.results = s.results ∧
      t.ctl.intEn1 = s.ctl.intEn1 ∧ t.ctl.intEn2 = s.ctl.intEn2) ∧
  ∀ s : State, s.eng.phase = .idle → Quiet s →
    AdmittedBitrate s.cfg s.eng.bitrate ∨ (s.eng.tocnt + 1).toNat ≤ s.cfg.timeoutThreshold →
    s.ctl.wfifo.length < s.cfg.wfifoDepth → s.ctl.pd = true ∨ s.busIdle = true → 1 ≤ s.cfg.idleAttempts →
    (s.cfg.mode = .polled ∧ s.ctl.eof = false ∧ 1 ≤ s.cfg.txPollAttempts) ∨
      (s.cfg.mode = .event ∧ s.sig = false) →
    ∃ t : State, exec .write s = .next t ∧ t.eng.res = .err .timeout ∧ t.eng.tocnt = s.eng.tocnt + 1

/-- The escalation (R32, R133), under any schedule: a WRITE that times out leaves `FRST` set, both FIFOs empty, the frame dropped, `TXEN` 0 and the bit timing undisturbed when the incremented count is at most the threshold, and a re-configured, powered-up controller when it is above. Basis: what `FRST` and `RST` do is the spec's decisions D6, D7 and D9, the order of the reset D27, the divisor D30 (log 19). -/
def Obligations.TimeoutEscalatesToFullReset : Prop :=
  ∀ s t : State, s.eng.phase = .idle → exec .write s = .next t → t.eng.res = .err .timeout →
    ((s.eng.tocnt + 1).toNat ≤ s.cfg.timeoutThreshold →
      t.ctl.frst = true ∧ t.ctl.wfifo = [] ∧ t.ctl.rfifo = [] ∧ t.ctl.txen = false ∧
      t.ctl.frame = { active := false, eofDone := false } ∧
      t.ctl.pd = s.ctl.pd ∧ t.ctl.rst = s.ctl.rst ∧
      (s.ctl.rst = false → t.ctl.btLow = s.ctl.btLow ∧ t.ctl.btHigh = s.ctl.btHigh)) ∧
    (s.cfg.timeoutThreshold < (s.eng.tocnt + 1).toNat →
      t.ctl.pd = false ∧ t.ctl.rst = false ∧ t.ctl.frst = false ∧ t.ctl.txen = false ∧
      t.ctl.wfifo = [] ∧ t.ctl.rfifo = [] ∧
      (s.cfg.rstClearsStatus = true → t.ctl.eof = false ∧ t.ctl.error = 0) ∧
      t.ctl.btLow = BitVec.ofNat 8 (s.cfg.maxCoreClock / s.eng.bitrate.toNat) ∧
      t.ctl.btHigh = BitVec.ofNat 8 (s.cfg.maxCoreClock / s.eng.bitrate.toNat / 256) &&& s.cfg.btHighMask)

/-! FINISH and RECOVER. -/

/-- RECOVER(full = false) under any schedule (R175): `FRST` set and left set, FIFOs emptied, the frame dropped, `TXEN` cleared; `PD`, `RST`, the bit timing and the engine's record untouched; quiet, `EOF` and `ERROR` too, with the two accesses. Basis: what FRST does is decisions D6 to D9; that RES is kept is the model's (log 8). -/
def Obligations.FifoRecoverySetsTheFlag : Prop :=
  ∀ s : State, s.eng.phase = .idle → ∃ t : State, exec .recoverFifo s = .next t ∧
    t.ctl.frst = true ∧ t.ctl.wfifo = [] ∧ t.ctl.rfifo = [] ∧ t.ctl.txen = false ∧
    t.ctl.frame = { active := false, eofDone := false } ∧
    t.ctl.pd = s.ctl.pd ∧ t.ctl.rst = s.ctl.rst ∧
    (s.ctl.rst = false → t.ctl.btLow = s.ctl.btLow ∧ t.ctl.btHigh = s.ctl.btHigh) ∧
    t.eng.tocnt = s.eng.tocnt ∧ t.eng.bitrate = s.eng.bitrate ∧ t.eng.res = s.eng.res ∧
    t.eng.req = s.eng.req ∧ t.eng.rsp = s.eng.rsp ∧ t.eng.phase = .idle ∧ t.cfg = s.cfg ∧
    t.irqMask = s.irqMask ∧ t.results = s.results ∧
    t.ctl.intEn1 = s.ctl.intEn1 ∧ t.ctl.intEn2 = s.ctl.intEn2 ∧
    (Quiet s → s.ctl.rst = false → t.ctl.eof = s.ctl.eof ∧ t.ctl.error = s.ctl.error ∧ t.sig = s.sig ∧
      t.history = [.wr .eng .control (controlByte s.cfg.layout { s.ctl with frst := true }),
        .rd .eng .control (controlByte s.cfg.layout s.ctl)] ++ s.history)

/-- RECOVER(full = true) with an admitted bitrate under any schedule (R176): the controller ends powered up and out of reset with empty FIFOs, no frame, the bit timing of the last configured bitrate, and `EOF` and `ERROR` cleared when `RST_CLEARS_STATUS`; `tocnt`, `bitrate`, the enables and the mask are not written. Basis: decisions D7 and D27; that RES is kept is the model's (log 8). -/
def Obligations.FullRecoveryReconfigures : Prop :=
  ∀ s : State, s.eng.phase = .idle → AdmittedBitrate s.cfg s.eng.bitrate →
    ∃ t : State, exec .recoverFull s = .next t ∧
      t.ctl.pd = false ∧ t.ctl.rst = false ∧ t.ctl.frst = false ∧ t.ctl.txen = false ∧
      t.ctl.wfifo = [] ∧ t.ctl.rfifo = [] ∧ t.ctl.frame = { active := false, eofDone := false } ∧
      t.ctl.btLow = BitVec.ofNat 8 (s.cfg.maxCoreClock / s.eng.bitrate.toNat) ∧
      t.ctl.btHigh = BitVec.ofNat 8 (s.cfg.maxCoreClock / s.eng.bitrate.toNat / 256) &&& s.cfg.btHighMask ∧
      (s.cfg.rstClearsStatus = true → t.ctl.eof = false ∧ t.ctl.error = 0) ∧
      t.eng.tocnt = s.eng.tocnt ∧ t.eng.bitrate = s.eng.bitrate ∧ t.eng.res = s.eng.res ∧
      t.eng.req = s.eng.req ∧ t.eng.rsp = s.eng.rsp ∧ t.eng.phase = .idle ∧ t.cfg = s.cfg ∧
      t.irqMask = s.irqMask ∧ t.results = s.results ∧
      t.ctl.intEn1 = s.ctl.intEn1 ∧ t.ctl.intEn2 = s.ctl.intEn2

/-- The writes of the full reset, quiet (V97): an assignment of `PD` and `RST`, the hold of the calling context (R177), the release by read-modify-write, then CONFIGURE. Basis: decisions D27 and D28. -/
def Obligations.FullRecoveryAccessSequence : Prop :=
  ∀ s : State, s.eng.phase = .idle → AdmittedBitrate s.cfg s.eng.bitrate → Quiet s →
    ∃ t : State, exec .recoverFull s = .next t ∧
      t.history = [.wr .eng .control 0x00, .rd .eng .control (bit s.cfg.layout.pd),
        .wr .eng .btHigh (BitVec.ofNat 8 (s.cfg.maxCoreClock / s.eng.bitrate.toNat / 256) &&& s.cfg.btHighMask),
        .wr .eng .btLow (BitVec.ofNat 8 (s.cfg.maxCoreClock / s.eng.bitrate.toNat)),
        .wr .eng .control (bit s.cfg.layout.pd), .rd .eng .control (bit s.cfg.layout.pd),
        .wr .eng .control (bit s.cfg.layout.pd),
        .rd .eng .control (bit s.cfg.layout.pd ||| bit s.cfg.layout.rst),
        (if s.inIsr then .delayUs s.cfg.resetBusyUs else .sleepMs s.cfg.resetSleepMs),
        .wr .eng .control (bit s.cfg.layout.pd ||| bit s.cfg.layout.rst)] ++ s.history ∧
      t.sig = s.sig ∧ t.busIdle = s.busIdle

/-- Every admitted operation ends in a result (R239): from a state that meets the invariant nothing is refused but an invalid bitrate and a request that is not well-formed, and nothing faults but a full reset with no bitrate (R278, decision D31). -/
def Obligations.OnlyAFullResetWithoutBitrateFaults : Prop :=
  (∀ s : State, s.eng.phase = .idle → s.eng.bitrate = 0 → exec .recoverFull s = .fault .noBitrate) ∧
  (∀ (i : Instr) (s : State) (f : Fault), exec i s = .fault f →
    f = .noBitrate ∧ s.eng.bitrate = 0 ∧
      (i = .recoverFull ∨
        ((i = .write ∨ ∃ r, i = .transfer r) ∧ s.cfg.timeoutThreshold < (s.eng.tocnt + 1).toNat))) ∧
  ∀ (i : Instr) (s : State) (x : Refusal), Inv s → exec i s = .refused x →
    (∃ br, i = .configure br ∧ ¬ AdmittedBitrate s.cfg br) ∨
      ∃ r, i = .transfer r ∧ ¬ WellFormedRequest s.cfg r

/-- FINISH with no error, quiet (R170): `EOF` is cleared with exactly its mask if it was set, `ERROR` is read, and the result is `Ok`; nothing else changes. Basis: decision D26. -/
def Obligations.FinishWithoutErrorSucceeds : Prop :=
  ∀ s : State, s.eng.phase = .idle → Quiet s → s.ctl.error = 0 →
    ∃ t : State, exec .finish s = .next t ∧ t.eng.res = .ok ∧ t.ctl = { s.ctl with eof := false } ∧
      t.history = (if s.ctl.eof then
          [Event.rd .eng .error 0x00, .wr .eng .status1 (bit s.cfg.layout.eof),
            .rd .eng .status1 (bit s.cfg.layout.eof)]
        else [Event.rd .eng .error 0x00, .rd .eng .status1 0x00]) ++ s.history ∧
      t.eng.tocnt = s.eng.tocnt ∧ t.eng.bitrate = s.eng.bitrate ∧ t.eng.req = s.eng.req ∧
      t.eng.rsp = s.eng.rsp ∧ t.eng.phase = .idle ∧ SameOutside s t ∧
      t.results = s.results ∧ t.draws = s.draws

/-- FINISH with an error, quiet (R171 to R174): one record for each named bit in the order RBOR, WBUR, BERR, the error register written back with exactly the value read and then 0, the FIFO-only recovery, `IoError`. Basis: decisions D26 and D9. -/
def Obligations.FinishWritesTheErrorBackVerbatim : Prop :=
  ∀ s : State, s.eng.phase = .idle → Quiet s → s.ctl.error ≠ 0 → s.ctl.rst = false →
    ∃ t : State, exec .finish s = .next t ∧ t.eng.res = .err .ioError ∧
      t.ctl = { s.ctl with
        eof := false, error := 0, frst := true, txen := false, wfifo := [], rfifo := []
        frame := { active := false, eofDone := false }, invalidated := false } ∧
      t.history =
        [Event.wr .eng .control (controlByte s.cfg.layout { s.ctl with frst := true }),
          .rd .eng .control (controlByte s.cfg.layout s.ctl),
          .wr .eng .error s.ctl.error] ++
        (if s.ctl.error.getLsbD s.cfg.layout.berr then [Event.log (.errorClass .berr)] else []) ++
        (if s.ctl.error.getLsbD s.cfg.layout.wbur then [Event.log (.errorClass .wbur)] else []) ++
        (if s.ctl.error.getLsbD s.cfg.layout.rbor then [Event.log (.errorClass .rbor)] else []) ++
        [Event.rd .eng .error s.ctl.error] ++
        (if s.ctl.eof then [Event.wr .eng .status1 (bit s.cfg.layout.eof), .rd .eng .status1 (bit s.cfg.layout.eof)]
          else [Event.rd .eng .status1 0x00]) ++ s.history ∧
      t.eng.tocnt = s.eng.tocnt ∧ t.eng.bitrate = s.eng.bitrate ∧ t.eng.req = s.eng.req ∧
      ResponseSettled s t ∧ t.eng.phase = .idle ∧ SameOutside s t ∧ t.results = s.results

/-- FINISH under any schedule (R170 to R175, R75): `ERROR` is read once; a nonzero value is written back verbatim and gives one record for each named bit, in order, and `IoError`, with the FIFO-only recovery; `STATUS1` is written with its mask alone; FINISH never escalates to a full reset and never writes `tocnt`. Basis: the mask alone is decision D26, the emptied FIFOs are D6 (R81), that FINISH always takes the FIFO-only recovery is R173. -/
def Obligations.FinishNeverEscalates : Prop :=
  ∀ s : State, s.eng.phase = .idle → ∃ (t : State) (h : List Event) (e : Byte), exec .finish s = .next t ∧
    t.history = h ++ s.history ∧ h.filterMap errorRead = [e] ∧
    h.filterMap errorWritten = (if e = 0 then [] else [e]) ∧
    h.reverse.filterMap loggedClass = errorClasses s.cfg.layout e ∧
    (∀ v, Event.wr .eng .status1 v ∈ h → v = bit s.cfg.layout.eof) ∧
    t.eng.tocnt = s.eng.tocnt ∧ t.eng.bitrate = s.eng.bitrate ∧ t.eng.req = s.eng.req ∧
    (t.eng.res = .ok → t.eng.rsp = s.eng.rsp) ∧ t.eng.phase = .idle ∧ t.cfg = s.cfg ∧
    t.ctl.pd = s.ctl.pd ∧ t.ctl.rst = s.ctl.rst ∧
    (s.ctl.rst = false → t.ctl.btLow = s.ctl.btLow ∧ t.ctl.btHigh = s.ctl.btHigh) ∧
    (e = 0 → t.eng.res = .ok ∧ t.ctl.frst = s.ctl.frst) ∧
    (e ≠ 0 → t.eng.res = .err .ioError ∧ t.ctl.frst = true ∧ t.ctl.wfifo = [] ∧ t.ctl.rfifo = [])

/-! READ. -/

/-- READ of a whole response that is already there, quiet, not a ping (R155, R157): the first byte is the transmit-side checksum, the last the receive-side checksum, neither checked, the bytes between are the response; exactly `expected_length + 2` bytes are popped; nothing is logged. Basis: that the operands come from the request latch, and that the working registers still show their last values after the operation, are the model's choices (log 8, log 24). -/
def Obligations.ReadReturnsThePayload : Prop :=
  ∀ (s : State) (w r : Byte) (p rest : List Byte), s.eng.phase = .idle → Quiet s →
    1 ≤ s.cfg.rxPollAttempts → 1 ≤ s.cfg.idleAttempts → s.ctl.pd = true ∨ s.busIdle = true →
    s.eng.req.commandCode ≠ s.cfg.pingCmd → s.ctl.rfifo = w :: (p ++ r :: rest) →
    p.length = s.eng.req.expectedLength.toNat →
    ∃ (t : State) (h : List Event), exec .read s = .next t ∧ t.history = h ++ s.history ∧
      t.eng.res = .ok ∧ t.eng.rsp = { bytes := p, writeChecksum := w, readChecksum := r } ∧
      t.eng.rcvd = s.eng.req.expectedLength ∧ t.eng.wfcs = w ∧ t.eng.rfcs = r ∧
      t.ctl = { s.ctl with rfifo := rest } ∧ (∀ x, Event.log x ∉ h) ∧
      t.eng.tocnt = s.eng.tocnt ∧ t.eng.bitrate = s.eng.bitrate ∧ t.eng.req = s.eng.req ∧
      t.eng.phase = .idle ∧ SameOutside s t ∧ t.results = s.results ∧ t.draws = s.draws

/-- READ of a ping, quiet (R158, R159): the transmit-side checksum is the whole response whatever the expected length, one byte is popped, and a mismatch with the expected length is a log record and no error. Basis: decision D41; that the operands come from the request latch, and that `rcvd` still stands after the operation, are the model's choices (log 8, log 24). -/
def Obligations.PingResponseIsTheChecksum : Prop :=
  ∀ (s : State) (w : Byte) (rest : List Byte), s.eng.phase = .idle → Quiet s →
    1 ≤ s.cfg.rxPollAttempts → 1 ≤ s.cfg.idleAttempts → s.ctl.pd = true ∨ s.busIdle = true →
    s.eng.req.commandCode = s.cfg.pingCmd → s.ctl.rfifo = w :: rest →
    ∃ (t : State) (h : List Event), exec .read s = .next t ∧ t.history = h ++ s.history ∧
      t.eng.res = .ok ∧ t.eng.rsp.bytes = [w] ∧ t.eng.rsp.writeChecksum = w ∧
      t.eng.rsp.readChecksum = s.eng.rsp.readChecksum ∧ t.eng.rcvd = 0 ∧
      t.ctl = { s.ctl with rfifo := rest } ∧
      (∀ x, Event.log x ∈ h ↔
        s.eng.req.expectedLength ≠ 0 ∧ x = .lengthMismatch 0 s.eng.req.expectedLength) ∧
      t.eng.tocnt = s.eng.tocnt ∧ t.eng.bitrate = s.eng.bitrate ∧ t.eng.req = s.eng.req ∧
      t.eng.phase = .idle ∧ SameOutside s t ∧ t.results = s.results ∧ t.draws = s.draws

/-- READ of a response that is too short, quiet, not a ping (R156): the bytes that are there are popped and lost, and the next slot's wait ends in `Timeout` with no idle check, no recovery and `tocnt` unchanged. Basis: decisions D14 and D24. -/
def Obligations.ReadSlotTimesOut : Prop :=
  ∀ s : State, s.eng.phase = .idle → Quiet s → 1 ≤ s.cfg.rxPollAttempts →
    s.eng.req.commandCode ≠ s.cfg.pingCmd →
    s.ctl.rfifo.length < s.eng.req.expectedLength.toNat + 2 →
    ∃ (t : State) (h : List Event), exec .read s = .next t ∧ t.history = h ++ s.history ∧
      t.eng.res = .err .timeout ∧ t.ctl = { s.ctl with rfifo := [] } ∧
      h.length = 2 * s.ctl.rfifo.length + 2 * s.cfg.rxPollAttempts ∧
      t.eng.tocnt = s.eng.tocnt ∧ t.eng.bitrate = s.eng.bitrate ∧ t.eng.req = s.eng.req ∧
      t.eng.rsp = Config.freeResponse s.draws ∧ t.draws = s.draws + 1 ∧
      t.eng.phase = .idle ∧ SameOutside s t ∧ t.results = s.results

/-- READ under any schedule (R155): it ends in `Ok`, `Timeout` or `BusBusy`, writes no register, touches neither `tocnt` nor the control bits nor the bit timing, never pops an empty FIFO (R90: no draw is used but the one that stands for the unspecified response after an error, log 7), the slot index counts at most to `expected_length + 1` (R246), and after `Ok` the response has the expected length, or one byte for a ping (R16). Basis: decision D25; that the index still stands after the operation is the model's choice (log 24). -/
def Obligations.ReadUnderAnySchedule : Prop :=
  ∀ s : State, s.eng.phase = .idle → ∃ (t : State) (h : List Event), exec .read s = .next t ∧
    t.history = h ++ s.history ∧ (∀ x ∈ h, isEngineWrite x = false) ∧
    (t.eng.res = .ok ∨ t.eng.res = .err .timeout ∨ t.eng.res = .err .busBusy) ∧
    t.draws = s.draws + (if t.eng.res = .ok then 0 else 1) ∧
    t.eng.i ≤ s.eng.req.expectedLength.toNat + 1 ∧
    (t.eng.res = .ok → t.eng.rsp.bytes.length =
      if s.eng.req.commandCode = s.cfg.pingCmd then 1 else s.eng.req.expectedLength.toNat) ∧
    t.eng.tocnt = s.eng.tocnt ∧ t.eng.bitrate = s.eng.bitrate ∧ t.eng.req = s.eng.req ∧
    t.eng.phase = .idle ∧ t.cfg = s.cfg ∧
    t.ctl.pd = s.ctl.pd ∧ t.ctl.rst = s.ctl.rst ∧ t.ctl.frst = s.ctl.frst ∧
    t.ctl.btLow = s.ctl.btLow ∧ t.ctl.btHigh = s.ctl.btHigh

/-! TRANSFER. -/

/-- A request that is not well-formed is refused (R15). Basis: decision D17. -/
def Obligations.TransferRefusesMalformedRequest : Prop :=
  ∀ (r : Request) (s : State), s.eng.phase = .idle → ¬ WellFormedRequest s.cfg r →
    exec (.transfer r) s = .refused .malformedRequest

/-- TRANSFER of a well-formed request under any schedule (R190, R236, R237): it completes, latches the request, shows one code on the result port and after `Ok` the count and the response, whose length is the expected one or 1 for a ping (R16); `tocnt` is as the table of R237 says for each outcome. Basis: the spec derives the table; the codes are decision D36. -/
def Obligations.TransferEndsWithOneResult : Prop :=
  ∀ (r : Request) (s : State), s.eng.phase = .idle → WellFormedRequest s.cfg r →
    AdmittedBitrate s.cfg s.eng.bitrate ∨ (s.eng.tocnt + 1).toNat ≤ s.cfg.timeoutThreshold →
    ∃ t : State, exec (.transfer r) s = .next t ∧ t.eng.phase = .idle ∧ t.eng.req = r ∧
      t.eng.bitrate = s.eng.bitrate ∧ t.cfg = s.cfg ∧ t.irqMask = s.irqMask ∧
      t.ctl.intEn1 = s.ctl.intEn1 ∧ t.ctl.intEn2 = s.ctl.intEn2 ∧
      ((t.eng.res = .ok ∧ t.eng.tocnt = 0 ∧
          t.results = s.results ++ s.cfg.errCode.ok ::
            BitVec.ofNat 8 t.eng.rsp.bytes.length :: t.eng.rsp.bytes ∧
          t.eng.rsp.bytes.length =
            if r.commandCode = s.cfg.pingCmd then 1 else r.expectedLength.toNat) ∨
       (t.eng.res = .err .fifoFull ∧ t.eng.tocnt = s.eng.tocnt ∧
          t.results = s.results ++ [s.cfg.errCode.fifoFull]) ∨
       (t.eng.res = .err .busBusy ∧ (t.eng.tocnt = s.eng.tocnt ∨ t.eng.tocnt = 0) ∧
          t.results = s.results ++ [s.cfg.errCode.busBusy]) ∨
       (t.eng.res = .err .timeout ∧ (t.eng.tocnt = s.eng.tocnt + 1 ∨ t.eng.tocnt = 0) ∧
          t.results = s.results ++ [s.cfg.errCode.timeout]) ∨
       (t.eng.res = .err .ioError ∧ t.eng.tocnt = 0 ∧ t.ctl.frst = true ∧
          t.results = s.results ++ [s.cfg.errCode.ioError]))

/-- When TRANSFER reads (R161), under any schedule: with no expected response and a command that is not the ping it never pops the read FIFO and its response is empty; else it has popped when it returns `Ok`. -/
def Obligations.TransferSkipsTheReadPhase : Prop :=
  ∀ (r : Request) (s t : State), exec (.transfer r) s = .next t →
    ∃ h : List Event, t.history = h ++ s.history ∧
      (r.expectedLength = 0 → r.commandCode ≠ s.cfg.pingCmd →
        (∀ x ∈ h, isEnginePop x = false) ∧ (t.eng.res = .ok → t.eng.rsp.bytes = [])) ∧
      (r.expectedLength ≠ 0 ∨ r.commandCode = s.cfg.pingCmd → t.eng.res = .ok →
        ∃ x ∈ h, isEnginePop x = true)

/-- The profile WB (R214), POLLED, a response expected and no ping: when CTL carries one well-behaved frame during the settle delay, TRANSFER returns `Ok` with exactly the payload the wire delivered, sends exactly the composed frame in push order (R44, R64), and leaves the controller clean. Basis: the profile is decision D39, the code D36; the order of `EOF` and the received bytes is the model's choice (log 22). -/
def Obligations.WellBehavedTransferReturnsThePayload : Prop :=
  ∀ (r : Request) (s : State) (w f : Byte) (p : List Byte),
    s.eng.phase = .idle → WellFormedRequest s.cfg r → s.cfg.mode = .polled →
    1 ≤ s.cfg.idleAttempts → 1 ≤ s.cfg.txPollAttempts → 1 ≤ s.cfg.rxPollAttempts →
    s.ctl.pd = false → s.ctl.rst = false → s.busIdle = true → s.ctl.eof = false → s.ctl.error = 0 →
    s.ctl.txen = false → s.ctl.frame.active = false → s.ctl.wfifo = [] → s.ctl.rfifo = [] →
    headerLen + 1 + r.writePayload.length ≤ s.cfg.wfifoDepth →
    r.commandCode ≠ s.cfg.pingCmd → r.expectedLength ≠ 0 → p.length = r.expectedLength.toNat →
    p.length + fcsLen ≤ s.cfg.rfifoDepth →
    s.turns = List.replicate (stepsBeforeSettle s.cfg r) .eng ++
      wellBehavedFrame (frameBytes s.cfg r).length (w :: (p ++ [f])) →
    ∃ (t : State) (h : List Event), exec (.transfer r) s = .next t ∧ t.history = h ++ s.history ∧
      t.eng.res = .ok ∧ t.eng.rsp = { bytes := p, writeChecksum := w, readChecksum := f } ∧
      t.results = s.results ++ s.cfg.errCode.ok :: BitVec.ofNat 8 p.length :: p ∧
      h.reverse.filterMap sentByte = frameBytes s.cfg r ∧ t.eng.tocnt = 0 ∧
      t.ctl.eof = false ∧ t.ctl.error = 0 ∧ t.ctl.txen = false ∧ t.ctl.wfifo = [] ∧ t.ctl.rfifo = [] ∧
      t.ctl.pd = false ∧ t.ctl.rst = false ∧ t.ctl.frst = false ∧ t.ctl.btLow = s.ctl.btLow ∧
      t.ctl.btHigh = s.ctl.btHigh ∧ t.ctl.intEn1 = s.ctl.intEn1 ∧ t.ctl.intEn2 = s.ctl.intEn2 ∧
      t.eng.bitrate = s.eng.bitrate ∧ t.eng.req = r ∧ t.busIdle = true ∧ t.sig = s.sig ∧
      t.irqMask = s.irqMask ∧ t.isr = s.isr ∧ t.cfg = s.cfg ∧ t.draws = s.draws ∧ t.eng.phase = .idle

/-- The profile WB (R214), POLLED, for the requests that bring no payload: a ping, whose response is the one byte `wfcs` (R158), and a request without a response, for which nothing is read (R161): TRANSFER returns `Ok`, sends exactly the composed frame, and what it does not pop of the delivered stream stays in the read FIFO (R273). Basis: the profile is decision D39, the ping D41, the codes D36; the order of `EOF` and the received bytes is the model's choice (log 22). -/
def Obligations.WellBehavedTransferWithoutPayload : Prop :=
  ∀ (r : Request) (s : State) (w f : Byte) (p : List Byte),
    s.eng.phase = .idle → WellFormedRequest s.cfg r → s.cfg.mode = .polled →
    1 ≤ s.cfg.idleAttempts → 1 ≤ s.cfg.txPollAttempts → 1 ≤ s.cfg.rxPollAttempts →
    CleanForTransfer s r → r.commandCode = s.cfg.pingCmd ∨ r.expectedLength = 0 →
    p.length = r.expectedLength.toNat → (wireStream s.cfg r w f p).length ≤ s.cfg.rfifoDepth →
    s.turns = List.replicate (stepsBeforeSettle s.cfg r) .eng ++
      wellBehavedFrame (frameBytes s.cfg r).length (wireStream s.cfg r w f p) →
    ∃ (t : State) (h : List Event), exec (.transfer r) s = .next t ∧ t.history = h ++ s.history ∧
      TransferDone s r w f p t ∧ h.reverse.filterMap sentByte = frameBytes s.cfg r ∧
      t.sig = s.sig ∧ t.isr = s.isr

/-- The profile WB (R214) in EVENT mode, for every well-formed request: the frame is carried and the handler then runs during the settle delay, posts on the empty write FIFO and clears `EOF` (R142, R143); WAIT_EVENT takes the signal, and TRANSFER returns `Ok`. Basis: decisions D12, D21, D22 and D39; the order of the moves is the model's choice (log 22). -/
def Obligations.WellBehavedTransferInEventMode : Prop :=
  ∀ (r : Request) (s : State) (w f : Byte) (p : List Byte),
    s.eng.phase = .idle → WellFormedRequest s.cfg r → s.cfg.mode = .event →
    1 ≤ s.cfg.idleAttempts → 1 ≤ s.cfg.rxPollAttempts → CleanForTransfer s r →
    s.irqMask = false → s.isr.next = .h0 → s.ctl.intEn2.getLsbD s.cfg.layout.wfe = true →
    p.length = r.expectedLength.toNat → (wireStream s.cfg r w f p).length ≤ s.cfg.rfifoDepth →
    s.turns = List.replicate (stepsBeforeSettle s.cfg r) .eng ++
      wellBehavedFrame (frameBytes s.cfg r).length (wireStream s.cfg r w f p) ++ List.replicate 6 .isr →
    ∃ (t : State) (h : List Event), exec (.transfer r) s = .next t ∧ t.history = h ++ s.history ∧
      TransferDone s r w f p t ∧ h.reverse.filterMap sentByte = frameBytes s.cfg r ∧
      t.sig = false ∧ t.isr.next = .h0

/-! The whole machine. -/

/-- Which operations write the engine's record and the platform's registers (R12, R13, R28, R53, R282): `cfg` no operation; `bitrate` only CONFIGURE; `tocnt` only WRITE and TRANSFER; the enables only their own writes; `IRQ_MASK` only ENABLE and DISABLE; `REQ` only TRANSFER. Under any schedule. Basis: decisions D7, D13, D31 and D45. -/
def Obligations.WritersOfTheRecord : Prop :=
  ∀ (i : Instr) (s t : State), exec i s = .next t →
    t.cfg = s.cfg ∧
    (t.eng.bitrate = s.eng.bitrate ∨ i = .configure t.eng.bitrate) ∧
    (t.eng.tocnt = s.eng.tocnt ∨ i = .write ∨ ∃ r, i = .transfer r) ∧
    (t.ctl.intEn1 = s.ctl.intEn1 ∨ i = .wrIntEn1 t.ctl.intEn1) ∧
    (t.ctl.intEn2 = s.ctl.intEn2 ∨ i = .wrIntEn2 t.ctl.intEn2) ∧
    (t.irqMask = s.irqMask ∨ i = .enable ∨ i = .disable) ∧
    (t.eng.req = s.eng.req ∨ i = .transfer t.eng.req)

/-- The moves of CTL and ENV that carry a frame, each as one step of the machine (R206, R207, R208, R209, R212), the error bits that ENV may set for an invalidated frame while the controller is powered up (R113, R249), and an operation presented by HOST or the platform: it stands at the port of an idle engine at which nothing else stands, else it is refused and changes nothing (R194). Basis: decisions D8, D9, D34 and D39; one move a step is the model's form (log 1, log 11), and so are the mark of an invalidated frame (log 15) and the port (log 21). -/
def Obligations.FrameMovesTakeTheirEffect : Prop :=
  ∀ (s : State) (rest : List Turn),
    (Running s → s.ctl.txen = true → s.ctl.frame.active = false →
      step { s with turns := .ctlStart :: rest } = .next { s with
        turns := rest, busIdle := false
        ctl := { s.ctl with frame := { active := true, eofDone := false }, invalidated := false } }) ∧
    (∀ (b : Byte) (q : List Byte), Running s → s.ctl.frame = { active := true, eofDone := false } →
      s.ctl.wfifo = b :: q →
      step { s with turns := .ctlTx :: rest } = .next { s with
        turns := rest, ctl := { s.ctl with wfifo := q }, history := .wireTx b :: s.history }) ∧
    (Running s → s.ctl.frame = { active := true, eofDone := false } →
      step { s with turns := .ctlEof :: rest } = .next { s with
        turns := rest
        ctl := { s.ctl with eof := true, txen := false, frame := { active := true, eofDone := true } } }) ∧
    (Running s → s.ctl.frame = { active := true, eofDone := true } →
      step { s with turns := .ctlEnd :: rest } = .next { s with
        turns := rest
        ctl := { s.ctl with frame := { active := false, eofDone := true }, invalidated := false } }) ∧
    (∀ v : Bool, s.ctl.frame.active = false →
      step { s with turns := .envBus v :: rest } = .next { s with turns := rest, busIdle := v }) ∧
    (∀ m : Byte, Running s → s.ctl.frame.active = true → s.ctl.invalidated = true →
      step { s with turns := .envErr m :: rest } = .next { s with
        turns := rest, ctl := { s.ctl with error := s.ctl.error ||| m } }) ∧
    (∀ (bytes : List Byte) (w : Half), s.eng.phase = .idle → s.port = none →
      step { s with turns := .host bytes :: rest } =
        .next { s with turns := rest, port := some (.cmd bytes) } ∧
      step { s with turns := .platform w :: rest } =
        .next { s with turns := rest, port := some (.bus w) }) ∧
    (∀ (bytes : List Byte) (w : Half), s.eng.phase ≠ .idle ∨ s.port ≠ none →
      step { s with turns := .host bytes :: rest } = .next { s with turns := rest } ∧
      step { s with turns := .platform w :: rest } = .next { s with turns := rest })

/-- The moves of CTL that deliver bytes and errors, each as one step of the machine (R207, R210, R211): an underrun, a received byte stored or lost with an overrun, other error bits. Basis: decision D39; one move a step is the model's form (log 1, log 11). -/
def Obligations.ReceiveAndErrorMovesTakeTheirEffect : Prop :=
  ∀ (s : State) (rest : List Turn),
    (Running s → s.ctl.frame = { active := true, eofDone := false } → s.ctl.wfifo = [] →
      step { s with turns := .ctlUnderrun :: rest } = .next { s with
        turns := rest, ctl := { s.ctl with error := s.ctl.error ||| bit s.cfg.layout.wbur } }) ∧
    (∀ b : Byte, Running s → s.ctl.frame.active = true → s.ctl.rfifo.length < s.cfg.rfifoDepth →
      step { s with turns := .ctlRx b :: rest } = .next { s with
        turns := rest, ctl := { s.ctl with rfifo := s.ctl.rfifo ++ [b] }, history := .wireRx b :: s.history }) ∧
    (∀ b : Byte, Running s → s.ctl.frame.active = true → s.cfg.rfifoDepth ≤ s.ctl.rfifo.length →
      step { s with turns := .ctlRx b :: rest } = .next { s with
        turns := rest, ctl := { s.ctl with error := s.ctl.error ||| bit s.cfg.layout.rbor }
        history := .wireRx b :: s.history }) ∧
    (∀ m : Byte, Running s → s.ctl.frame.active = true → m.getLsbD s.cfg.layout.rbor = false →
      m.getLsbD s.cfg.layout.wbur = false →
      step { s with turns := .ctlErr m :: rest } = .next { s with
        turns := rest, ctl := { s.ctl with error := s.ctl.error ||| m } })

/-- The handler's turns one by one, each as one step of the machine (R143): one register access or one post a turn, in the order H0 to H5, each only while R29 allows it; else the turn changes nothing. Basis: decisions D12 and D22; that R29 is tested at every step is the model's reading (log 9), one access a step its form (log 11). -/
def Obligations.HandlerTurnsTakeTheirEffect : Prop :=
  ∀ (s : State) (rest : List Turn),
    (s.cfg.mode = .polled ∨ irqLine s = false ∨ s.irqMask = true →
      step { s with turns := .isr :: rest } = .next { s with turns := rest }) ∧
    (s.cfg.mode = .event → irqLine s = true → s.irqMask = false →
      (s.isr.next = .h0 → step { s with turns := .isr :: rest } = .next { s with
        turns := rest, isr := { s.isr with next := .h1, e := s.ctl.error }, rdata := s.ctl.error
        history := .rd .isr .error s.ctl.error :: s.history }) ∧
      (s.isr.next = .h1 → step { s with turns := .isr :: rest } = .next { s with
        turns := rest, isr := { s.isr with next := .h2, s1 := status1Byte s.cfg.layout s.ctl }
        rdata := status1Byte s.cfg.layout s.ctl
        history := .rd .isr .status1 (status1Byte s.cfg.layout s.ctl) :: s.history }) ∧
      (s.isr.next = .h2 → step { s with turns := .isr :: rest } = .next { s with
        turns := rest, isr := { s.isr with next := .h3, s2 := status2Byte s }, rdata := status2Byte s
        history := .rd .isr .status2 (status2Byte s) :: s.history }) ∧
      (s.isr.next = .h3 → step { s with turns := .isr :: rest } = .next { s with
        turns := rest, isr := { s.isr with next := .h4 }
        ctl := { s.ctl with eof := s.ctl.eof && !s.isr.s1.getLsbD s.cfg.layout.eof }
        history := .wr .isr .status1 s.isr.s1 :: s.history }) ∧
      (s.isr.next = .h4 → step { s with turns := .isr :: rest } = .next { s with
        turns := rest, isr := { s.isr with next := .h5 }
        sig := s.sig || s.isr.s2.getLsbD s.cfg.layout.wfe }) ∧
      (s.isr.next = .h5 → step { s with turns := .isr :: rest } = .next { s with
        turns := rest, isr := { s.isr with next := .h0 }
        sig := s.sig || (s.cfg.postOnRff && s.isr.s2.getLsbD s.cfg.layout.rff) }))

/-- Moves that are not enabled change nothing (R205 to R213): under `PD`, `RST` or `FRST` no move of CTL, and outside a frame none but CTL_START; CTL_START without `TXEN` or during a frame; CTL_TX, CTL_UNDERRUN and CTL_EOF after `EOF`; CTL_TX with an empty write FIFO, CTL_UNDERRUN with bytes in it; CTL_END before `EOF`; CTL_ERR with `RBOR` or `WBUR`; ENV_BUS during a frame; ENV's error bits for a frame that is not invalidated, and under `PD`, `RST` or `FRST` (R249). Basis: decisions D6, D7, D8, D9 and D39; that a move that is not enabled changes nothing is the model's form (log 11), the mark of an invalidated frame too (log 15). -/
def Obligations.FrameMovesAreGated : Prop :=
  ∀ (s : State) (m : Turn) (rest : List Turn),
    (isFrameMove m = true ∧ (s.ctl.pd = true ∨ s.ctl.rst = true ∨ s.ctl.frst = true ∨
        (s.ctl.frame.active = false ∧ m ≠ .ctlStart))) ∨
    (m = .ctlStart ∧ (s.ctl.txen = false ∨ s.ctl.frame.active = true)) ∨
    ((m = .ctlTx ∨ m = .ctlUnderrun ∨ m = .ctlEof) ∧ s.ctl.frame.eofDone = true) ∨
    (m = .ctlTx ∧ s.ctl.wfifo = []) ∨ (m = .ctlUnderrun ∧ s.ctl.wfifo ≠ []) ∨
    (m = .ctlEnd ∧ s.ctl.frame.eofDone = false) ∨
    (∃ e : Byte, m = .ctlErr e ∧ (e.getLsbD s.cfg.layout.rbor = true ∨ e.getLsbD s.cfg.layout.wbur = true)) ∨
    (∃ v : Bool, m = .envBus v ∧ s.ctl.frame.active = true) ∨
    (∃ e : Byte, m = .envErr e ∧ (s.ctl.pd = true ∨ s.ctl.rst = true ∨ s.ctl.frst = true ∨
      s.ctl.frame.active = false ∨ s.ctl.invalidated = false)) →
    step { s with turns := m :: rest } = .next { s with turns := rest }

/-- What CTL and ENV may never do (R213), for each of their moves as a step of the machine: no push to the write FIFO, no pop of the read FIFO, no clear of `EOF` or of an `ERROR` bit, no write of `PD`, `RST`, `FRST`, the bit timing or the enables, no set of `TXEN`, no touch of the engine, the signal, the mask or the handler. Basis: decision D39. -/
def Obligations.WireSideNeverDoes : Prop :=
  ∀ (s t : State) (m : Turn) (rest : List Turn),
    isFrameMove m = true ∨ (∃ v, m = .envBus v) ∨ (∃ e, m = .envErr e) →
    s.turns = m :: rest → step s = .next t →
    t.turns = rest ∧ t.eng = s.eng ∧ t.sig = s.sig ∧ t.irqMask = s.irqMask ∧ t.isr = s.isr ∧
    t.port = s.port ∧ t.results = s.results ∧ t.cfg = s.cfg ∧
    (∃ q, s.ctl.wfifo = q ++ t.ctl.wfifo) ∧ (∃ q, t.ctl.rfifo = s.ctl.rfifo ++ q) ∧
    (s.ctl.eof = true → t.ctl.eof = true) ∧ s.ctl.error &&& t.ctl.error = s.ctl.error ∧
    (t.ctl.txen = true → s.ctl.txen = true) ∧
    t.ctl.pd = s.ctl.pd ∧ t.ctl.rst = s.ctl.rst ∧ t.ctl.frst = s.ctl.frst ∧
    t.ctl.btLow = s.ctl.btLow ∧ t.ctl.btHigh = s.ctl.btHigh ∧
    t.ctl.intEn1 = s.ctl.intEn1 ∧ t.ctl.intEn2 = s.ctl.intEn2

/-- Power-on reset with any parameters (R34, R261): what the spec states of it. Basis: decision D38; the parameters of State.reset are log 3. -/
def Obligations.PowerOnResetState : Prop :=
  ∀ p : Params,
    (State.powerOn p).eng.phase = .idle ∧ (State.powerOn p).eng.tocnt = 0 ∧
    (State.powerOn p).eng.bitrate = 0 ∧ (State.powerOn p).sig = false ∧ (State.powerOn p).irqMask = true ∧
    controlByte p.layout (State.powerOn p).ctl = bit p.layout.pd ∧ (State.powerOn p).ctl.eof = false ∧
    (State.powerOn p).ctl.error = 0 ∧ (State.powerOn p).ctl.wfifo = [] ∧ (State.powerOn p).ctl.rfifo = [] ∧
    (State.powerOn p).ctl.intEn1 = 0 ∧ (State.powerOn p).ctl.intEn2 = 0 ∧
    (State.powerOn p).ctl.frame = { active := false, eofDone := false } ∧
    (1 ≤ p.wfifoDepth → 1 ≤ p.rfifoDepth →
      status2Byte (State.powerOn p) = bit p.layout.idle ||| bit p.layout.wfe ||| bit p.layout.rfe) ∧
    State.reset = State.powerOn Params.default ∧
    controlByte Layout.default State.reset.ctl = 0x01 ∧ status2Byte State.reset = 0x15

/-- The invariant holds after power-on reset with any parameters. Basis: it rests on decision D38 and on log 5. -/
def Obligations.PowerOnResetMeetsTheInvariant : Prop := ∀ p : Params, Inv (State.powerOn p)

/-- Every step keeps the invariant, from every state that meets it and under any schedule: the FIFOs within their depths and held empty under a reset, the frame's own activity on the wire, an admitted bitrate, no signal in POLLED mode, and the engine idle between operations (R194, R236). Basis: it rests on decisions D3, D6, D7, D9 and D31. -/
def Obligations.StepKeepsTheInvariant : Prop :=
  ∀ s t : State, Inv s → step s = .next t → Inv t

/-! Encoding and the step. -/

/-- Decode and encode agree for every well-formed operation under any layout, and at the command port the bytes after a command are no part of it: they are dropped. Basis: decisions D1 and D37; what follows a command is log 16. -/
def Obligations.DecodeInvertsEncode : Prop :=
  (∀ (l : Layout) (i : Instr), i.wellFormed = true → decodeIssue l (encode l i) = some i) ∧
  ∀ (l : Layout) (i : Instr) (bytes tail : List Byte), i.wellFormed = true → encode l i = .cmd bytes →
    decodeCommand (bytes ++ tail) = some (i, tail) ∧ decodeIssue l (.cmd (bytes ++ tail)) = some i

/-- Words written out from the encodings of the spec in the default layout (R69, R70, R73; V41, program P1). Basis: decisions D1 and D37. -/
def Obligations.SpecWordsDecode : Prop :=
  decodeIssue Layout.default (.bus 0x8618) = some (.wrBtLow 0x18) ∧
  decodeIssue Layout.default (.bus 0x0500) = some .rdRdData ∧
  decodeIssue Layout.default (.cmd [0x01, 0xE8, 0x03, 0x00, 0x00]) = some (.configure 1000) ∧
  decodeIssue Layout.default (.cmd [0x02]) = some .enable ∧
  decodeIssue Layout.default (.cmd [0x03]) = some .disable ∧
  decodeIssue Layout.default (.cmd [0x04, 0x30, 0x01, 0x02, 0x00, 0x01, 0xAB]) =
    some (.transfer { targetAddress := 0x30, commandCode := 0x01, writePayload := [0xAB],
                      expectedLength := 2 }) ∧
  decodeIssue Layout.default (.micro 0x16) = some .recoverFifo ∧
  decodeIssue Layout.default (.micro 0x17) = some .recoverFull

/-- A bus word decodes exactly when bits 14:12 are 0 and the register number is at most 9 (R69), an identifier exactly when it is one of 0x10 to 0x18 (R73), a command only when its first byte is an operation code (R72) and its operand bytes are all there (log 16); the step refuses the rest. Basis: decisions D10 and D37; a command cut short is the model's refusal (log 16). -/
def Obligations.ReservedWordsAreRefused : Prop :=
  (∀ (l : Layout) (w : Half),
    (decodeBus l w).isSome = true ↔ w.toNat / 4096 % 8 = 0 ∧ w.toNat / 256 % 16 ≤ 9) ∧
  (∀ id : Byte, (decodeMicro id).isSome = true ↔ 0x10 ≤ id.toNat ∧ id.toNat ≤ 0x18) ∧
  (∀ (op : Byte) (rest : List Byte), op = 0x00 ∨ 0x05 ≤ op.toNat → decodeCommand (op :: rest) = none) ∧
  decodeCommand [] = none ∧
  (∀ rest : List Byte, rest.length < 4 → decodeCommand (0x01 :: rest) = none) ∧
  (∀ rest : List Byte, rest.length < 5 → decodeCommand (0x04 :: rest) = none) ∧
  (∀ (a c lo hi m : Byte) (tail : List Byte), tail.length < m.toNat →
    decodeCommand (0x04 :: a :: c :: lo :: hi :: m :: tail) = none) ∧
  ∀ (s : State) (x : Issue), Quiet s → s.port = some x →
    decodeIssue s.cfg.layout x = none → ∃ r : Refusal, step s = .refused r

/-- A step runs the decoded operation: at the engine's turn, what stands at the port is decoded and executed at the state with the port empty and the turn used. Basis: the port and the turn order are the model's form (log 1, log 2, log 11). -/
def Obligations.StepRunsTheDecodedOperation : Prop :=
  ∀ (s : State) (x : Issue) (i : Instr), s.port = some x → decodeIssue s.cfg.layout x = some i →
    (Quiet s → step s = exec i { s with port := none }) ∧
    (∀ ts, s.turns = .eng :: ts → step s = exec i { s with port := none, turns := ts })

/-- An operation in progress goes on from its step label (R19), under any schedule, when nothing is presented. Standing at its first label with no call under way, the step is the operation itself; from any label, with any calls under way and admitted bitrates, it ends with the engine idle; a poll loop that is used up inside WRITE inside TRANSFER ends all three with `BusBusy` and one code on the result port (R236); a full reset with no bitrate faults at V4 (R278); READ at D1 goes on to D2 while a slot is left, else to D7 (R155, R246). Basis: decisions D31, D35 and D36; that the rest of the operation is one step, and that a label is taken at its beginning, is the model's choice (log 17). -/
def Obligations.OperationInProgressGoesOn : Prop :=
  ∀ (s : State) (ts : List Turn), s.port = none →
    let standing (l : Label) : State := { s with turns := .eng :: ts, eng := { s.eng with phase := .at l } }
    let resting : State := { s with turns := ts, eng := { s.eng with phase := .idle } }
    (s.eng.calls = [] →
      step (standing .c0) = exec (.configure s.eng.newBitrate) resting ∧
      step (standing .n0) = exec .enable resting ∧ step (standing .b0) = exec .disable resting ∧
      step (standing .t0) = exec (.transfer s.eng.req) resting ∧
      step (standing .i0) = exec .waitIdle resting ∧ step (standing .w1) = exec .write resting ∧
      step (standing .p0) = exec .waitPoll resting ∧ step (standing .e0) = exec .waitEvent resting ∧
      step (standing .d0) = exec .read resting ∧ step (standing .f0) = exec .finish resting ∧
      step (standing .v0) = exec .recoverFifo resting ∧ step (standing .v1) = exec .recoverFull resting) ∧
    (∀ l : Label, AdmittedBitrate s.cfg s.eng.bitrate → AdmittedBitrate s.cfg s.eng.newBitrate →
      (l = .t0 → WellFormedRequest s.cfg s.eng.req) →
      ∃ t : State, step (standing l) = .next t ∧ t.eng.phase = .idle ∧ t.cfg = s.cfg) ∧
    (s.eng.calls = [.w5, .t2] → s.eng.n = 0 →
      ∃ t : State, step (standing .i5) = .next t ∧ t.eng.res = .err .busBusy ∧ t.eng.phase = .idle ∧
        t.eng.calls = [] ∧ t.results = s.results ++ [s.cfg.errCode.busBusy] ∧ t.eng.tocnt = s.eng.tocnt ∧
        t.ctl = s.ctl ∧ t.history = s.history) ∧
    (s.eng.bitrate = 0 → step (standing .v4) = .fault .noBitrate) ∧
    (s.eng.i ≤ s.eng.req.expectedLength.toNat + 1 → step (standing .d1) = step (standing .d2)) ∧
    (s.eng.req.expectedLength.toNat + 1 < s.eng.i → step (standing .d1) = step (standing .d7))
end

