-- ==== Sys2Proof/Laws/Flags.lean ====
section
/-! SUPPORT. What the computed status values show, bit by bit, in any layout. -/

namespace Sys2Proof

/-! No two fields of a register share a bit. -/

@[simp] theorem Layout.pd_ne_rst (l : Layout) : l.pd ≠ l.rst := by
  have h := l.controlDistinct; simp only [List.nodup_cons, List.mem_cons, not_or] at h; tauto
@[simp] theorem Layout.rst_ne_pd (l : Layout) : l.rst ≠ l.pd := l.pd_ne_rst.symm
@[simp] theorem Layout.pd_ne_frst (l : Layout) : l.pd ≠ l.frst := by
  have h := l.controlDistinct; simp only [List.nodup_cons, List.mem_cons, not_or] at h; tauto
@[simp] theorem Layout.frst_ne_pd (l : Layout) : l.frst ≠ l.pd := l.pd_ne_frst.symm
@[simp] theorem Layout.pd_ne_txen (l : Layout) : l.pd ≠ l.txen := by
  have h := l.controlDistinct; simp only [List.nodup_cons, List.mem_cons, not_or] at h; tauto
@[simp] theorem Layout.txen_ne_pd (l : Layout) : l.txen ≠ l.pd := l.pd_ne_txen.symm
@[simp] theorem Layout.rst_ne_frst (l : Layout) : l.rst ≠ l.frst := by
  have h := l.controlDistinct; simp only [List.nodup_cons, List.mem_cons, not_or] at h; tauto
@[simp] theorem Layout.frst_ne_rst (l : Layout) : l.frst ≠ l.rst := l.rst_ne_frst.symm
@[simp] theorem Layout.rst_ne_txen (l : Layout) : l.rst ≠ l.txen := by
  have h := l.controlDistinct; simp only [List.nodup_cons, List.mem_cons, not_or] at h; tauto
@[simp] theorem Layout.txen_ne_rst (l : Layout) : l.txen ≠ l.rst := l.rst_ne_txen.symm
@[simp] theorem Layout.frst_ne_txen (l : Layout) : l.frst ≠ l.txen := by
  have h := l.controlDistinct; simp only [List.nodup_cons, List.mem_cons, not_or] at h; tauto
@[simp] theorem Layout.txen_ne_frst (l : Layout) : l.txen ≠ l.frst := l.frst_ne_txen.symm
@[simp] theorem Layout.idle_ne_wff (l : Layout) : l.idle ≠ l.wff := by
  have h := l.status2Distinct; simp only [List.nodup_cons, List.mem_cons, not_or] at h; tauto
@[simp] theorem Layout.wff_ne_idle (l : Layout) : l.wff ≠ l.idle := l.idle_ne_wff.symm
@[simp] theorem Layout.idle_ne_wfe (l : Layout) : l.idle ≠ l.wfe := by
  have h := l.status2Distinct; simp only [List.nodup_cons, List.mem_cons, not_or] at h; tauto
@[simp] theorem Layout.wfe_ne_idle (l : Layout) : l.wfe ≠ l.idle := l.idle_ne_wfe.symm
@[simp] theorem Layout.idle_ne_rff (l : Layout) : l.idle ≠ l.rff := by
  have h := l.status2Distinct; simp only [List.nodup_cons, List.mem_cons, not_or] at h; tauto
@[simp] theorem Layout.rff_ne_idle (l : Layout) : l.rff ≠ l.idle := l.idle_ne_rff.symm
@[simp] theorem Layout.idle_ne_rfe (l : Layout) : l.idle ≠ l.rfe := by
  have h := l.status2Distinct; simp only [List.nodup_cons, List.mem_cons, not_or] at h; tauto
@[simp] theorem Layout.rfe_ne_idle (l : Layout) : l.rfe ≠ l.idle := l.idle_ne_rfe.symm
@[simp] theorem Layout.wff_ne_wfe (l : Layout) : l.wff ≠ l.wfe := by
  have h := l.status2Distinct; simp only [List.nodup_cons, List.mem_cons, not_or] at h; tauto
@[simp] theorem Layout.wfe_ne_wff (l : Layout) : l.wfe ≠ l.wff := l.wff_ne_wfe.symm
@[simp] theorem Layout.wff_ne_rff (l : Layout) : l.wff ≠ l.rff := by
  have h := l.status2Distinct; simp only [List.nodup_cons, List.mem_cons, not_or] at h; tauto
@[simp] theorem Layout.rff_ne_wff (l : Layout) : l.rff ≠ l.wff := l.wff_ne_rff.symm
@[simp] theorem Layout.wff_ne_rfe (l : Layout) : l.wff ≠ l.rfe := by
  have h := l.status2Distinct; simp only [List.nodup_cons, List.mem_cons, not_or] at h; tauto
@[simp] theorem Layout.rfe_ne_wff (l : Layout) : l.rfe ≠ l.wff := l.wff_ne_rfe.symm
@[simp] theorem Layout.wfe_ne_rff (l : Layout) : l.wfe ≠ l.rff := by
  have h := l.status2Distinct; simp only [List.nodup_cons, List.mem_cons, not_or] at h; tauto
@[simp] theorem Layout.rff_ne_wfe (l : Layout) : l.rff ≠ l.wfe := l.wfe_ne_rff.symm
@[simp] theorem Layout.wfe_ne_rfe (l : Layout) : l.wfe ≠ l.rfe := by
  have h := l.status2Distinct; simp only [List.nodup_cons, List.mem_cons, not_or] at h; tauto
@[simp] theorem Layout.rfe_ne_wfe (l : Layout) : l.rfe ≠ l.wfe := l.wfe_ne_rfe.symm
@[simp] theorem Layout.rff_ne_rfe (l : Layout) : l.rff ≠ l.rfe := by
  have h := l.status2Distinct; simp only [List.nodup_cons, List.mem_cons, not_or] at h; tauto
@[simp] theorem Layout.rfe_ne_rff (l : Layout) : l.rfe ≠ l.rff := l.rff_ne_rfe.symm
@[simp] theorem Layout.rbor_ne_wbur (l : Layout) : l.rbor ≠ l.wbur := by
  have h := l.errorDistinct; simp only [List.nodup_cons, List.mem_cons, not_or] at h; tauto
@[simp] theorem Layout.wbur_ne_rbor (l : Layout) : l.wbur ≠ l.rbor := l.rbor_ne_wbur.symm
@[simp] theorem Layout.rbor_ne_berr (l : Layout) : l.rbor ≠ l.berr := by
  have h := l.errorDistinct; simp only [List.nodup_cons, List.mem_cons, not_or] at h; tauto
@[simp] theorem Layout.berr_ne_rbor (l : Layout) : l.berr ≠ l.rbor := l.rbor_ne_berr.symm
@[simp] theorem Layout.wbur_ne_berr (l : Layout) : l.wbur ≠ l.berr := by
  have h := l.errorDistinct; simp only [List.nodup_cons, List.mem_cons, not_or] at h; tauto
@[simp] theorem Layout.berr_ne_wbur (l : Layout) : l.berr ≠ l.wbur := l.wbur_ne_berr.symm

/-- Two registers with one number are one register. -/
theorem Reg.number_injective (l : Layout) {r q : Reg} (h : r.number l = q.number l) : r = q := by
  have d : (Reg.all.map (Reg.number l)).Nodup :=
    List.Nodup.map (f := Fin.val) Fin.val_injective l.numbersDistinct
  have m : ∀ x : Reg, x ∈ Reg.all := by intro x; cases x <;> decide
  exact List.inj_on_of_nodup_map d (m r) (m q) h

/-- Decoding a register's number gives the register. -/
@[simp] theorem regOfNumber_number (l : Layout) (r : Reg) : regOfNumber l (r.number l) = some r := by
  have m : ∀ x : Reg, x ∈ Reg.all := by intro x; cases x <;> decide
  cases h : regOfNumber l (r.number l) with
  | none => exact absurd (List.find?_eq_none.mp h r (m r)) (by simp)
  | some q => rw [Reg.number_injective l (by simpa using List.find?_some h : q.number l = r.number l)]

/-- A register number is at most 9. -/
theorem Reg.number_le (l : Layout) (r : Reg) : r.number l ≤ 9 := by
  cases r <;> exact Nat.le_of_lt_succ (Fin.isLt _)

namespace Machine

/-- A masked flag shows at its own position only. -/
@[simp] theorem hasBit_flag (b : Bool) (p q : Fin 8) : hasBit (flag b p) q = (b && decide (p = q)) := by
  revert b p q; decide

@[simp] theorem hasBit_bit (p q : Fin 8) : hasBit (bit p) q = decide (p = q) := by
  revert p q; decide

@[simp] theorem hasBit_or (v w : Byte) (p : Fin 8) : hasBit (v ||| w) p = (hasBit v p || hasBit w p) := by
  simp [hasBit]

@[simp] theorem hasBit_and (v w : Byte) (p : Fin 8) : hasBit (v &&& w) p = (hasBit v p && hasBit w p) := by
  simp [hasBit]

@[simp] theorem hasBit_not (v : Byte) (p : Fin 8) : hasBit (~~~v) p = !hasBit v p := by
  simp [hasBit]

@[simp] theorem hasBit_zero (p : Fin 8) : hasBit 0 p = false := by simp [hasBit]

/-- Two bytes are equal when every bit is. -/
theorem byte_ext {v w : Byte} (h : ∀ p : Fin 8, hasBit v p = hasBit w p) : v = w :=
  BitVec.eq_of_getLsbD_eq fun i hi => h ⟨i, hi⟩

@[simp] theorem bit_ne_zero (p : Fin 8) : bit p ≠ 0 := by revert p; decide

@[simp] theorem hasBit_controlByte_pd (l : Layout) (k : Controller) :
    hasBit (controlByte l k) l.pd = k.pd := by simp [controlByte]
@[simp] theorem hasBit_controlByte_rst (l : Layout) (k : Controller) :
    hasBit (controlByte l k) l.rst = k.rst := by simp [controlByte]
@[simp] theorem hasBit_controlByte_frst (l : Layout) (k : Controller) :
    hasBit (controlByte l k) l.frst = k.frst := by simp [controlByte]
@[simp] theorem hasBit_controlByte_txen (l : Layout) (k : Controller) :
    hasBit (controlByte l k) l.txen = k.txen := by simp [controlByte]
@[simp] theorem hasBit_status1Byte_eof (l : Layout) (k : Controller) :
    hasBit (status1Byte l k) l.eof = k.eof := by simp [status1Byte]
@[simp] theorem hasBit_status2Byte_idle (s : State) :
    hasBit (status2Byte s) s.cfg.layout.idle = idleFlag s := by simp [status2Byte]
@[simp] theorem hasBit_status2Byte_wff (s : State) :
    hasBit (status2Byte s) s.cfg.layout.wff = wffFlag s := by simp [status2Byte]
@[simp] theorem hasBit_status2Byte_wfe (s : State) :
    hasBit (status2Byte s) s.cfg.layout.wfe = wfeFlag s := by simp [status2Byte]
@[simp] theorem hasBit_status2Byte_rff (s : State) :
    hasBit (status2Byte s) s.cfg.layout.rff = rffFlag s := by simp [status2Byte]
@[simp] theorem hasBit_status2Byte_rfe (s : State) :
    hasBit (status2Byte s) s.cfg.layout.rfe = rfeFlag s := by simp [status2Byte]

/-- The reserved bits of `CONTROL` read 0. -/
theorem hasBit_controlByte_reserved (l : Layout) (k : Controller) (p : Fin 8)
    (h : p ∉ [l.pd, l.rst, l.frst, l.txen]) : hasBit (controlByte l k) p = false := by
  simp only [List.mem_cons, List.not_mem_nil, or_false, not_or] at h
  simp [controlByte, Ne.symm h.1, Ne.symm h.2.1, Ne.symm h.2.2.1, Ne.symm h.2.2.2]

/-- The other bits of `STATUS2` read 0. -/
theorem hasBit_status2Byte_reserved (s : State) (p : Fin 8)
    (h : p ∉ [s.cfg.layout.idle, s.cfg.layout.wff, s.cfg.layout.wfe, s.cfg.layout.rff, s.cfg.layout.rfe]) :
    hasBit (status2Byte s) p = false := by
  simp only [List.mem_cons, List.not_mem_nil, or_false, not_or] at h
  simp [status2Byte, Ne.symm h.1, Ne.symm h.2.1, Ne.symm h.2.2.1, Ne.symm h.2.2.2.1, Ne.symm h.2.2.2.2]

end Machine

end Sys2Proof
end

