-- ==== Sys2Proof/Laws/State.lean ====
section
/-! SUPPORT. One lemma per field per named update of the state, each true by rfl, so that no proof unfolds a record update. -/

namespace Sys2Proof.Machine

@[simp] theorem record_cfg (x : Event) (s : State) : (record x s).cfg = s.cfg := rfl
@[simp] theorem record_eng (x : Event) (s : State) : (record x s).eng = s.eng := rfl
@[simp] theorem record_ctl (x : Event) (s : State) : (record x s).ctl = s.ctl := rfl
@[simp] theorem record_busIdle (x : Event) (s : State) : (record x s).busIdle = s.busIdle := rfl
@[simp] theorem record_sig (x : Event) (s : State) : (record x s).sig = s.sig := rfl
@[simp] theorem record_irqMask (x : Event) (s : State) : (record x s).irqMask = s.irqMask := rfl
@[simp] theorem record_isr (x : Event) (s : State) : (record x s).isr = s.isr := rfl
@[simp] theorem record_inIsr (x : Event) (s : State) : (record x s).inIsr = s.inIsr := rfl
@[simp] theorem record_port (x : Event) (s : State) : (record x s).port = s.port := rfl
@[simp] theorem record_turns (x : Event) (s : State) : (record x s).turns = s.turns := rfl
@[simp] theorem record_rdata (x : Event) (s : State) : (record x s).rdata = s.rdata := rfl
@[simp] theorem record_results (x : Event) (s : State) : (record x s).results = s.results := rfl
@[simp] theorem record_history (x : Event) (s : State) : (record x s).history = x :: s.history := rfl
@[simp] theorem record_draws (x : Event) (s : State) : (record x s).draws = s.draws := rfl

@[simp] theorem goto_cfg (l : Label) (s : State) : (goto l s).cfg = s.cfg := rfl
@[simp] theorem goto_eng (l : Label) (s : State) : (goto l s).eng = { s.eng with phase := .at l } := rfl
@[simp] theorem goto_ctl (l : Label) (s : State) : (goto l s).ctl = s.ctl := rfl
@[simp] theorem goto_busIdle (l : Label) (s : State) : (goto l s).busIdle = s.busIdle := rfl
@[simp] theorem goto_sig (l : Label) (s : State) : (goto l s).sig = s.sig := rfl
@[simp] theorem goto_irqMask (l : Label) (s : State) : (goto l s).irqMask = s.irqMask := rfl
@[simp] theorem goto_isr (l : Label) (s : State) : (goto l s).isr = s.isr := rfl
@[simp] theorem goto_inIsr (l : Label) (s : State) : (goto l s).inIsr = s.inIsr := rfl
@[simp] theorem goto_port (l : Label) (s : State) : (goto l s).port = s.port := rfl
@[simp] theorem goto_turns (l : Label) (s : State) : (goto l s).turns = s.turns := rfl
@[simp] theorem goto_rdata (l : Label) (s : State) : (goto l s).rdata = s.rdata := rfl
@[simp] theorem goto_results (l : Label) (s : State) : (goto l s).results = s.results := rfl
@[simp] theorem goto_history (l : Label) (s : State) : (goto l s).history = s.history := rfl
@[simp] theorem goto_draws (l : Label) (s : State) : (goto l s).draws = s.draws := rfl

@[simp] theorem returnOk_cfg (s : State) : (returnOk s).cfg = s.cfg := rfl
@[simp] theorem returnOk_eng (s : State) : (returnOk s).eng = { s.eng with res := .ok } := rfl
@[simp] theorem returnOk_ctl (s : State) : (returnOk s).ctl = s.ctl := rfl
@[simp] theorem returnOk_busIdle (s : State) : (returnOk s).busIdle = s.busIdle := rfl
@[simp] theorem returnOk_sig (s : State) : (returnOk s).sig = s.sig := rfl
@[simp] theorem returnOk_irqMask (s : State) : (returnOk s).irqMask = s.irqMask := rfl
@[simp] theorem returnOk_isr (s : State) : (returnOk s).isr = s.isr := rfl
@[simp] theorem returnOk_inIsr (s : State) : (returnOk s).inIsr = s.inIsr := rfl
@[simp] theorem returnOk_port (s : State) : (returnOk s).port = s.port := rfl
@[simp] theorem returnOk_turns (s : State) : (returnOk s).turns = s.turns := rfl
@[simp] theorem returnOk_rdata (s : State) : (returnOk s).rdata = s.rdata := rfl
@[simp] theorem returnOk_results (s : State) : (returnOk s).results = s.results := rfl
@[simp] theorem returnOk_history (s : State) : (returnOk s).history = s.history := rfl
@[simp] theorem returnOk_draws (s : State) : (returnOk s).draws = s.draws := rfl

@[simp] theorem raiseErr_cfg (k : ErrKind) (s : State) : (raiseErr k s).cfg = s.cfg := rfl
@[simp] theorem raiseErr_eng (k : ErrKind) (s : State) : (raiseErr k s).eng = { s.eng with res := .err k } := rfl
@[simp] theorem raiseErr_ctl (k : ErrKind) (s : State) : (raiseErr k s).ctl = s.ctl := rfl
@[simp] theorem raiseErr_busIdle (k : ErrKind) (s : State) : (raiseErr k s).busIdle = s.busIdle := rfl
@[simp] theorem raiseErr_sig (k : ErrKind) (s : State) : (raiseErr k s).sig = s.sig := rfl
@[simp] theorem raiseErr_irqMask (k : ErrKind) (s : State) : (raiseErr k s).irqMask = s.irqMask := rfl
@[simp] theorem raiseErr_isr (k : ErrKind) (s : State) : (raiseErr k s).isr = s.isr := rfl
@[simp] theorem raiseErr_inIsr (k : ErrKind) (s : State) : (raiseErr k s).inIsr = s.inIsr := rfl
@[simp] theorem raiseErr_port (k : ErrKind) (s : State) : (raiseErr k s).port = s.port := rfl
@[simp] theorem raiseErr_turns (k : ErrKind) (s : State) : (raiseErr k s).turns = s.turns := rfl
@[simp] theorem raiseErr_rdata (k : ErrKind) (s : State) : (raiseErr k s).rdata = s.rdata := rfl
@[simp] theorem raiseErr_results (k : ErrKind) (s : State) : (raiseErr k s).results = s.results := rfl
@[simp] theorem raiseErr_history (k : ErrKind) (s : State) : (raiseErr k s).history = s.history := rfl
@[simp] theorem raiseErr_draws (k : ErrKind) (s : State) : (raiseErr k s).draws = s.draws := rfl

@[simp] theorem toIdle_cfg (s : State) : (toIdle s).cfg = s.cfg := rfl
@[simp] theorem toIdle_eng (s : State) : (toIdle s).eng = { s.eng with phase := .idle } := rfl
@[simp] theorem toIdle_ctl (s : State) : (toIdle s).ctl = s.ctl := rfl
@[simp] theorem toIdle_busIdle (s : State) : (toIdle s).busIdle = s.busIdle := rfl
@[simp] theorem toIdle_sig (s : State) : (toIdle s).sig = s.sig := rfl
@[simp] theorem toIdle_irqMask (s : State) : (toIdle s).irqMask = s.irqMask := rfl
@[simp] theorem toIdle_isr (s : State) : (toIdle s).isr = s.isr := rfl
@[simp] theorem toIdle_inIsr (s : State) : (toIdle s).inIsr = s.inIsr := rfl
@[simp] theorem toIdle_port (s : State) : (toIdle s).port = s.port := rfl
@[simp] theorem toIdle_turns (s : State) : (toIdle s).turns = s.turns := rfl
@[simp] theorem toIdle_rdata (s : State) : (toIdle s).rdata = s.rdata := rfl
@[simp] theorem toIdle_results (s : State) : (toIdle s).results = s.results := rfl
@[simp] theorem toIdle_history (s : State) : (toIdle s).history = s.history := rfl
@[simp] theorem toIdle_draws (s : State) : (toIdle s).draws = s.draws := rfl

@[simp] theorem putResult_cfg (bytes : List Byte) (s : State) : (putResult bytes s).cfg = s.cfg := rfl
@[simp] theorem putResult_eng (bytes : List Byte) (s : State) : (putResult bytes s).eng = s.eng := rfl
@[simp] theorem putResult_ctl (bytes : List Byte) (s : State) : (putResult bytes s).ctl = s.ctl := rfl
@[simp] theorem putResult_busIdle (bytes : List Byte) (s : State) : (putResult bytes s).busIdle = s.busIdle := rfl
@[simp] theorem putResult_sig (bytes : List Byte) (s : State) : (putResult bytes s).sig = s.sig := rfl
@[simp] theorem putResult_irqMask (bytes : List Byte) (s : State) : (putResult bytes s).irqMask = s.irqMask := rfl
@[simp] theorem putResult_isr (bytes : List Byte) (s : State) : (putResult bytes s).isr = s.isr := rfl
@[simp] theorem putResult_inIsr (bytes : List Byte) (s : State) : (putResult bytes s).inIsr = s.inIsr := rfl
@[simp] theorem putResult_port (bytes : List Byte) (s : State) : (putResult bytes s).port = s.port := rfl
@[simp] theorem putResult_turns (bytes : List Byte) (s : State) : (putResult bytes s).turns = s.turns := rfl
@[simp] theorem putResult_rdata (bytes : List Byte) (s : State) : (putResult bytes s).rdata = s.rdata := rfl
@[simp] theorem putResult_results (bytes : List Byte) (s : State) : (putResult bytes s).results = s.results ++ bytes := rfl
@[simp] theorem putResult_history (bytes : List Byte) (s : State) : (putResult bytes s).history = s.history := rfl
@[simp] theorem putResult_draws (bytes : List Byte) (s : State) : (putResult bytes s).draws = s.draws := rfl

@[simp] theorem forgetResponse_cfg (s : State) : (forgetResponse s).cfg = s.cfg := rfl
@[simp] theorem forgetResponse_eng (s : State) : (forgetResponse s).eng = { s.eng with rsp := Config.freeResponse s.draws } := rfl
@[simp] theorem forgetResponse_ctl (s : State) : (forgetResponse s).ctl = s.ctl := rfl
@[simp] theorem forgetResponse_busIdle (s : State) : (forgetResponse s).busIdle = s.busIdle := rfl
@[simp] theorem forgetResponse_sig (s : State) : (forgetResponse s).sig = s.sig := rfl
@[simp] theorem forgetResponse_irqMask (s : State) : (forgetResponse s).irqMask = s.irqMask := rfl
@[simp] theorem forgetResponse_isr (s : State) : (forgetResponse s).isr = s.isr := rfl
@[simp] theorem forgetResponse_inIsr (s : State) : (forgetResponse s).inIsr = s.inIsr := rfl
@[simp] theorem forgetResponse_port (s : State) : (forgetResponse s).port = s.port := rfl
@[simp] theorem forgetResponse_turns (s : State) : (forgetResponse s).turns = s.turns := rfl
@[simp] theorem forgetResponse_rdata (s : State) : (forgetResponse s).rdata = s.rdata := rfl
@[simp] theorem forgetResponse_results (s : State) : (forgetResponse s).results = s.results := rfl
@[simp] theorem forgetResponse_history (s : State) : (forgetResponse s).history = s.history := rfl
@[simp] theorem forgetResponse_draws (s : State) : (forgetResponse s).draws = s.draws + 1 := rfl

@[simp] theorem enter_cfg (c : CallSite) (s : State) : (enter c s).cfg = s.cfg := rfl
@[simp] theorem enter_eng (c : CallSite) (s : State) : (enter c s).eng = { s.eng with calls := c :: s.eng.calls } := rfl
@[simp] theorem enter_ctl (c : CallSite) (s : State) : (enter c s).ctl = s.ctl := rfl
@[simp] theorem enter_busIdle (c : CallSite) (s : State) : (enter c s).busIdle = s.busIdle := rfl
@[simp] theorem enter_sig (c : CallSite) (s : State) : (enter c s).sig = s.sig := rfl
@[simp] theorem enter_irqMask (c : CallSite) (s : State) : (enter c s).irqMask = s.irqMask := rfl
@[simp] theorem enter_isr (c : CallSite) (s : State) : (enter c s).isr = s.isr := rfl
@[simp] theorem enter_inIsr (c : CallSite) (s : State) : (enter c s).inIsr = s.inIsr := rfl
@[simp] theorem enter_port (c : CallSite) (s : State) : (enter c s).port = s.port := rfl
@[simp] theorem enter_turns (c : CallSite) (s : State) : (enter c s).turns = s.turns := rfl
@[simp] theorem enter_rdata (c : CallSite) (s : State) : (enter c s).rdata = s.rdata := rfl
@[simp] theorem enter_results (c : CallSite) (s : State) : (enter c s).results = s.results := rfl
@[simp] theorem enter_history (c : CallSite) (s : State) : (enter c s).history = s.history := rfl
@[simp] theorem enter_draws (c : CallSite) (s : State) : (enter c s).draws = s.draws := rfl

@[simp] theorem leave_cfg (c : CallSite) (s : State) : (leave c s).cfg = s.cfg := rfl
@[simp] theorem leave_eng (c : CallSite) (s : State) : (leave c s).eng = { s.eng with calls := s.eng.calls.tail, phase := .at c.label } := rfl
@[simp] theorem leave_ctl (c : CallSite) (s : State) : (leave c s).ctl = s.ctl := rfl
@[simp] theorem leave_busIdle (c : CallSite) (s : State) : (leave c s).busIdle = s.busIdle := rfl
@[simp] theorem leave_sig (c : CallSite) (s : State) : (leave c s).sig = s.sig := rfl
@[simp] theorem leave_irqMask (c : CallSite) (s : State) : (leave c s).irqMask = s.irqMask := rfl
@[simp] theorem leave_isr (c : CallSite) (s : State) : (leave c s).isr = s.isr := rfl
@[simp] theorem leave_inIsr (c : CallSite) (s : State) : (leave c s).inIsr = s.inIsr := rfl
@[simp] theorem leave_port (c : CallSite) (s : State) : (leave c s).port = s.port := rfl
@[simp] theorem leave_turns (c : CallSite) (s : State) : (leave c s).turns = s.turns := rfl
@[simp] theorem leave_rdata (c : CallSite) (s : State) : (leave c s).rdata = s.rdata := rfl
@[simp] theorem leave_results (c : CallSite) (s : State) : (leave c s).results = s.results := rfl
@[simp] theorem leave_history (c : CallSite) (s : State) : (leave c s).history = s.history := rfl
@[simp] theorem leave_draws (c : CallSite) (s : State) : (leave c s).draws = s.draws := rfl

@[simp] theorem latchS_cfg (s : State) : (latchS s).cfg = s.cfg := rfl
@[simp] theorem latchS_eng (s : State) : (latchS s).eng = { s.eng with s := s.rdata } := rfl
@[simp] theorem latchS_ctl (s : State) : (latchS s).ctl = s.ctl := rfl
@[simp] theorem latchS_busIdle (s : State) : (latchS s).busIdle = s.busIdle := rfl
@[simp] theorem latchS_sig (s : State) : (latchS s).sig = s.sig := rfl
@[simp] theorem latchS_irqMask (s : State) : (latchS s).irqMask = s.irqMask := rfl
@[simp] theorem latchS_isr (s : State) : (latchS s).isr = s.isr := rfl
@[simp] theorem latchS_inIsr (s : State) : (latchS s).inIsr = s.inIsr := rfl
@[simp] theorem latchS_port (s : State) : (latchS s).port = s.port := rfl
@[simp] theorem latchS_turns (s : State) : (latchS s).turns = s.turns := rfl
@[simp] theorem latchS_rdata (s : State) : (latchS s).rdata = s.rdata := rfl
@[simp] theorem latchS_results (s : State) : (latchS s).results = s.results := rfl
@[simp] theorem latchS_history (s : State) : (latchS s).history = s.history := rfl
@[simp] theorem latchS_draws (s : State) : (latchS s).draws = s.draws := rfl

@[simp] theorem latchC_cfg (s : State) : (latchC s).cfg = s.cfg := rfl
@[simp] theorem latchC_eng (s : State) : (latchC s).eng = { s.eng with c := s.rdata } := rfl
@[simp] theorem latchC_ctl (s : State) : (latchC s).ctl = s.ctl := rfl
@[simp] theorem latchC_busIdle (s : State) : (latchC s).busIdle = s.busIdle := rfl
@[simp] theorem latchC_sig (s : State) : (latchC s).sig = s.sig := rfl
@[simp] theorem latchC_irqMask (s : State) : (latchC s).irqMask = s.irqMask := rfl
@[simp] theorem latchC_isr (s : State) : (latchC s).isr = s.isr := rfl
@[simp] theorem latchC_inIsr (s : State) : (latchC s).inIsr = s.inIsr := rfl
@[simp] theorem latchC_port (s : State) : (latchC s).port = s.port := rfl
@[simp] theorem latchC_turns (s : State) : (latchC s).turns = s.turns := rfl
@[simp] theorem latchC_rdata (s : State) : (latchC s).rdata = s.rdata := rfl
@[simp] theorem latchC_results (s : State) : (latchC s).results = s.results := rfl
@[simp] theorem latchC_history (s : State) : (latchC s).history = s.history := rfl
@[simp] theorem latchC_draws (s : State) : (latchC s).draws = s.draws := rfl

@[simp] theorem latchE_cfg (s : State) : (latchE s).cfg = s.cfg := rfl
@[simp] theorem latchE_eng (s : State) : (latchE s).eng = { s.eng with e := s.rdata } := rfl
@[simp] theorem latchE_ctl (s : State) : (latchE s).ctl = s.ctl := rfl
@[simp] theorem latchE_busIdle (s : State) : (latchE s).busIdle = s.busIdle := rfl
@[simp] theorem latchE_sig (s : State) : (latchE s).sig = s.sig := rfl
@[simp] theorem latchE_irqMask (s : State) : (latchE s).irqMask = s.irqMask := rfl
@[simp] theorem latchE_isr (s : State) : (latchE s).isr = s.isr := rfl
@[simp] theorem latchE_inIsr (s : State) : (latchE s).inIsr = s.inIsr := rfl
@[simp] theorem latchE_port (s : State) : (latchE s).port = s.port := rfl
@[simp] theorem latchE_turns (s : State) : (latchE s).turns = s.turns := rfl
@[simp] theorem latchE_rdata (s : State) : (latchE s).rdata = s.rdata := rfl
@[simp] theorem latchE_results (s : State) : (latchE s).results = s.results := rfl
@[simp] theorem latchE_history (s : State) : (latchE s).history = s.history := rfl
@[simp] theorem latchE_draws (s : State) : (latchE s).draws = s.draws := rfl

@[simp] theorem latchB_cfg (s : State) : (latchB s).cfg = s.cfg := rfl
@[simp] theorem latchB_eng (s : State) : (latchB s).eng = { s.eng with b := s.rdata } := rfl
@[simp] theorem latchB_ctl (s : State) : (latchB s).ctl = s.ctl := rfl
@[simp] theorem latchB_busIdle (s : State) : (latchB s).busIdle = s.busIdle := rfl
@[simp] theorem latchB_sig (s : State) : (latchB s).sig = s.sig := rfl
@[simp] theorem latchB_irqMask (s : State) : (latchB s).irqMask = s.irqMask := rfl
@[simp] theorem latchB_isr (s : State) : (latchB s).isr = s.isr := rfl
@[simp] theorem latchB_inIsr (s : State) : (latchB s).inIsr = s.inIsr := rfl
@[simp] theorem latchB_port (s : State) : (latchB s).port = s.port := rfl
@[simp] theorem latchB_turns (s : State) : (latchB s).turns = s.turns := rfl
@[simp] theorem latchB_rdata (s : State) : (latchB s).rdata = s.rdata := rfl
@[simp] theorem latchB_results (s : State) : (latchB s).results = s.results := rfl
@[simp] theorem latchB_history (s : State) : (latchB s).history = s.history := rfl
@[simp] theorem latchB_draws (s : State) : (latchB s).draws = s.draws := rfl

@[simp] theorem setAttempts_cfg (n : Nat) (s : State) : (setAttempts n s).cfg = s.cfg := rfl
@[simp] theorem setAttempts_eng (n : Nat) (s : State) : (setAttempts n s).eng = { s.eng with n := n } := rfl
@[simp] theorem setAttempts_ctl (n : Nat) (s : State) : (setAttempts n s).ctl = s.ctl := rfl
@[simp] theorem setAttempts_busIdle (n : Nat) (s : State) : (setAttempts n s).busIdle = s.busIdle := rfl
@[simp] theorem setAttempts_sig (n : Nat) (s : State) : (setAttempts n s).sig = s.sig := rfl
@[simp] theorem setAttempts_irqMask (n : Nat) (s : State) : (setAttempts n s).irqMask = s.irqMask := rfl
@[simp] theorem setAttempts_isr (n : Nat) (s : State) : (setAttempts n s).isr = s.isr := rfl
@[simp] theorem setAttempts_inIsr (n : Nat) (s : State) : (setAttempts n s).inIsr = s.inIsr := rfl
@[simp] theorem setAttempts_port (n : Nat) (s : State) : (setAttempts n s).port = s.port := rfl
@[simp] theorem setAttempts_turns (n : Nat) (s : State) : (setAttempts n s).turns = s.turns := rfl
@[simp] theorem setAttempts_rdata (n : Nat) (s : State) : (setAttempts n s).rdata = s.rdata := rfl
@[simp] theorem setAttempts_results (n : Nat) (s : State) : (setAttempts n s).results = s.results := rfl
@[simp] theorem setAttempts_history (n : Nat) (s : State) : (setAttempts n s).history = s.history := rfl
@[simp] theorem setAttempts_draws (n : Nat) (s : State) : (setAttempts n s).draws = s.draws := rfl

@[simp] theorem countAttempt_cfg (s : State) : (countAttempt s).cfg = s.cfg := rfl
@[simp] theorem countAttempt_eng (s : State) : (countAttempt s).eng = { s.eng with n := s.eng.n - 1 } := rfl
@[simp] theorem countAttempt_ctl (s : State) : (countAttempt s).ctl = s.ctl := rfl
@[simp] theorem countAttempt_busIdle (s : State) : (countAttempt s).busIdle = s.busIdle := rfl
@[simp] theorem countAttempt_sig (s : State) : (countAttempt s).sig = s.sig := rfl
@[simp] theorem countAttempt_irqMask (s : State) : (countAttempt s).irqMask = s.irqMask := rfl
@[simp] theorem countAttempt_isr (s : State) : (countAttempt s).isr = s.isr := rfl
@[simp] theorem countAttempt_inIsr (s : State) : (countAttempt s).inIsr = s.inIsr := rfl
@[simp] theorem countAttempt_port (s : State) : (countAttempt s).port = s.port := rfl
@[simp] theorem countAttempt_turns (s : State) : (countAttempt s).turns = s.turns := rfl
@[simp] theorem countAttempt_rdata (s : State) : (countAttempt s).rdata = s.rdata := rfl
@[simp] theorem countAttempt_results (s : State) : (countAttempt s).results = s.results := rfl
@[simp] theorem countAttempt_history (s : State) : (countAttempt s).history = s.history := rfl
@[simp] theorem countAttempt_draws (s : State) : (countAttempt s).draws = s.draws := rfl

@[simp] theorem latchOperand_cfg (br : Word) (s : State) : (latchOperand br s).cfg = s.cfg := rfl
@[simp] theorem latchOperand_eng (br : Word) (s : State) : (latchOperand br s).eng = { s.eng with newBitrate := br, phase := .at .c0 } := rfl
@[simp] theorem latchOperand_ctl (br : Word) (s : State) : (latchOperand br s).ctl = s.ctl := rfl
@[simp] theorem latchOperand_busIdle (br : Word) (s : State) : (latchOperand br s).busIdle = s.busIdle := rfl
@[simp] theorem latchOperand_sig (br : Word) (s : State) : (latchOperand br s).sig = s.sig := rfl
@[simp] theorem latchOperand_irqMask (br : Word) (s : State) : (latchOperand br s).irqMask = s.irqMask := rfl
@[simp] theorem latchOperand_isr (br : Word) (s : State) : (latchOperand br s).isr = s.isr := rfl
@[simp] theorem latchOperand_inIsr (br : Word) (s : State) : (latchOperand br s).inIsr = s.inIsr := rfl
@[simp] theorem latchOperand_port (br : Word) (s : State) : (latchOperand br s).port = s.port := rfl
@[simp] theorem latchOperand_turns (br : Word) (s : State) : (latchOperand br s).turns = s.turns := rfl
@[simp] theorem latchOperand_rdata (br : Word) (s : State) : (latchOperand br s).rdata = s.rdata := rfl
@[simp] theorem latchOperand_results (br : Word) (s : State) : (latchOperand br s).results = s.results := rfl
@[simp] theorem latchOperand_history (br : Word) (s : State) : (latchOperand br s).history = s.history := rfl
@[simp] theorem latchOperand_draws (br : Word) (s : State) : (latchOperand br s).draws = s.draws := rfl

@[simp] theorem latchDiv_cfg (s : State) : (latchDiv s).cfg = s.cfg := rfl
@[simp] theorem latchDiv_eng (s : State) : (latchDiv s).eng = { s.eng with div := divisor s.cfg s.eng.newBitrate, phase := .at .c2 } := rfl
@[simp] theorem latchDiv_ctl (s : State) : (latchDiv s).ctl = s.ctl := rfl
@[simp] theorem latchDiv_busIdle (s : State) : (latchDiv s).busIdle = s.busIdle := rfl
@[simp] theorem latchDiv_sig (s : State) : (latchDiv s).sig = s.sig := rfl
@[simp] theorem latchDiv_irqMask (s : State) : (latchDiv s).irqMask = s.irqMask := rfl
@[simp] theorem latchDiv_isr (s : State) : (latchDiv s).isr = s.isr := rfl
@[simp] theorem latchDiv_inIsr (s : State) : (latchDiv s).inIsr = s.inIsr := rfl
@[simp] theorem latchDiv_port (s : State) : (latchDiv s).port = s.port := rfl
@[simp] theorem latchDiv_turns (s : State) : (latchDiv s).turns = s.turns := rfl
@[simp] theorem latchDiv_rdata (s : State) : (latchDiv s).rdata = s.rdata := rfl
@[simp] theorem latchDiv_results (s : State) : (latchDiv s).results = s.results := rfl
@[simp] theorem latchDiv_history (s : State) : (latchDiv s).history = s.history := rfl
@[simp] theorem latchDiv_draws (s : State) : (latchDiv s).draws = s.draws := rfl

@[simp] theorem latchBitrate_cfg (s : State) : (latchBitrate s).cfg = s.cfg := rfl
@[simp] theorem latchBitrate_eng (s : State) : (latchBitrate s).eng = { s.eng with bitrate := s.eng.newBitrate, phase := .at .c6 } := rfl
@[simp] theorem latchBitrate_ctl (s : State) : (latchBitrate s).ctl = s.ctl := rfl
@[simp] theorem latchBitrate_busIdle (s : State) : (latchBitrate s).busIdle = s.busIdle := rfl
@[simp] theorem latchBitrate_sig (s : State) : (latchBitrate s).sig = s.sig := rfl
@[simp] theorem latchBitrate_irqMask (s : State) : (latchBitrate s).irqMask = s.irqMask := rfl
@[simp] theorem latchBitrate_isr (s : State) : (latchBitrate s).isr = s.isr := rfl
@[simp] theorem latchBitrate_inIsr (s : State) : (latchBitrate s).inIsr = s.inIsr := rfl
@[simp] theorem latchBitrate_port (s : State) : (latchBitrate s).port = s.port := rfl
@[simp] theorem latchBitrate_turns (s : State) : (latchBitrate s).turns = s.turns := rfl
@[simp] theorem latchBitrate_rdata (s : State) : (latchBitrate s).rdata = s.rdata := rfl
@[simp] theorem latchBitrate_results (s : State) : (latchBitrate s).results = s.results := rfl
@[simp] theorem latchBitrate_history (s : State) : (latchBitrate s).history = s.history := rfl
@[simp] theorem latchBitrate_draws (s : State) : (latchBitrate s).draws = s.draws := rfl

@[simp] theorem latchRequest_cfg (r : Request) (s : State) : (latchRequest r s).cfg = s.cfg := rfl
@[simp] theorem latchRequest_eng (r : Request) (s : State) : (latchRequest r s).eng = { s.eng with req := r, rsp := { s.eng.rsp with bytes := [] }, phase := .at .t1 } := rfl
@[simp] theorem latchRequest_ctl (r : Request) (s : State) : (latchRequest r s).ctl = s.ctl := rfl
@[simp] theorem latchRequest_busIdle (r : Request) (s : State) : (latchRequest r s).busIdle = s.busIdle := rfl
@[simp] theorem latchRequest_sig (r : Request) (s : State) : (latchRequest r s).sig = s.sig := rfl
@[simp] theorem latchRequest_irqMask (r : Request) (s : State) : (latchRequest r s).irqMask = s.irqMask := rfl
@[simp] theorem latchRequest_isr (r : Request) (s : State) : (latchRequest r s).isr = s.isr := rfl
@[simp] theorem latchRequest_inIsr (r : Request) (s : State) : (latchRequest r s).inIsr = s.inIsr := rfl
@[simp] theorem latchRequest_port (r : Request) (s : State) : (latchRequest r s).port = s.port := rfl
@[simp] theorem latchRequest_turns (r : Request) (s : State) : (latchRequest r s).turns = s.turns := rfl
@[simp] theorem latchRequest_rdata (r : Request) (s : State) : (latchRequest r s).rdata = s.rdata := rfl
@[simp] theorem latchRequest_results (r : Request) (s : State) : (latchRequest r s).results = s.results := rfl
@[simp] theorem latchRequest_history (r : Request) (s : State) : (latchRequest r s).history = s.history := rfl
@[simp] theorem latchRequest_draws (r : Request) (s : State) : (latchRequest r s).draws = s.draws := rfl

@[simp] theorem putTimeouts_cfg (n : Word) (s : State) : (putTimeouts n s).cfg = s.cfg := rfl
@[simp] theorem putTimeouts_eng (n : Word) (s : State) : (putTimeouts n s).eng = { s.eng with tocnt := n } := rfl
@[simp] theorem putTimeouts_ctl (n : Word) (s : State) : (putTimeouts n s).ctl = s.ctl := rfl
@[simp] theorem putTimeouts_busIdle (n : Word) (s : State) : (putTimeouts n s).busIdle = s.busIdle := rfl
@[simp] theorem putTimeouts_sig (n : Word) (s : State) : (putTimeouts n s).sig = s.sig := rfl
@[simp] theorem putTimeouts_irqMask (n : Word) (s : State) : (putTimeouts n s).irqMask = s.irqMask := rfl
@[simp] theorem putTimeouts_isr (n : Word) (s : State) : (putTimeouts n s).isr = s.isr := rfl
@[simp] theorem putTimeouts_inIsr (n : Word) (s : State) : (putTimeouts n s).inIsr = s.inIsr := rfl
@[simp] theorem putTimeouts_port (n : Word) (s : State) : (putTimeouts n s).port = s.port := rfl
@[simp] theorem putTimeouts_turns (n : Word) (s : State) : (putTimeouts n s).turns = s.turns := rfl
@[simp] theorem putTimeouts_rdata (n : Word) (s : State) : (putTimeouts n s).rdata = s.rdata := rfl
@[simp] theorem putTimeouts_results (n : Word) (s : State) : (putTimeouts n s).results = s.results := rfl
@[simp] theorem putTimeouts_history (n : Word) (s : State) : (putTimeouts n s).history = s.history := rfl
@[simp] theorem putTimeouts_draws (n : Word) (s : State) : (putTimeouts n s).draws = s.draws := rfl

@[simp] theorem startRead_cfg (s : State) : (startRead s).cfg = s.cfg := rfl
@[simp] theorem startRead_eng (s : State) : (startRead s).eng = { s.eng with rcvd := 0, rsp := { s.eng.rsp with bytes := [] }, phase := .at .d0 } := rfl
@[simp] theorem startRead_ctl (s : State) : (startRead s).ctl = s.ctl := rfl
@[simp] theorem startRead_busIdle (s : State) : (startRead s).busIdle = s.busIdle := rfl
@[simp] theorem startRead_sig (s : State) : (startRead s).sig = s.sig := rfl
@[simp] theorem startRead_irqMask (s : State) : (startRead s).irqMask = s.irqMask := rfl
@[simp] theorem startRead_isr (s : State) : (startRead s).isr = s.isr := rfl
@[simp] theorem startRead_inIsr (s : State) : (startRead s).inIsr = s.inIsr := rfl
@[simp] theorem startRead_port (s : State) : (startRead s).port = s.port := rfl
@[simp] theorem startRead_turns (s : State) : (startRead s).turns = s.turns := rfl
@[simp] theorem startRead_rdata (s : State) : (startRead s).rdata = s.rdata := rfl
@[simp] theorem startRead_results (s : State) : (startRead s).results = s.results := rfl
@[simp] theorem startRead_history (s : State) : (startRead s).history = s.history := rfl
@[simp] theorem startRead_draws (s : State) : (startRead s).draws = s.draws := rfl

@[simp] theorem setSlot_cfg (i : Nat) (s : State) : (setSlot i s).cfg = s.cfg := rfl
@[simp] theorem setSlot_eng (i : Nat) (s : State) : (setSlot i s).eng = { s.eng with i := i, phase := .at .d1 } := rfl
@[simp] theorem setSlot_ctl (i : Nat) (s : State) : (setSlot i s).ctl = s.ctl := rfl
@[simp] theorem setSlot_busIdle (i : Nat) (s : State) : (setSlot i s).busIdle = s.busIdle := rfl
@[simp] theorem setSlot_sig (i : Nat) (s : State) : (setSlot i s).sig = s.sig := rfl
@[simp] theorem setSlot_irqMask (i : Nat) (s : State) : (setSlot i s).irqMask = s.irqMask := rfl
@[simp] theorem setSlot_isr (i : Nat) (s : State) : (setSlot i s).isr = s.isr := rfl
@[simp] theorem setSlot_inIsr (i : Nat) (s : State) : (setSlot i s).inIsr = s.inIsr := rfl
@[simp] theorem setSlot_port (i : Nat) (s : State) : (setSlot i s).port = s.port := rfl
@[simp] theorem setSlot_turns (i : Nat) (s : State) : (setSlot i s).turns = s.turns := rfl
@[simp] theorem setSlot_rdata (i : Nat) (s : State) : (setSlot i s).rdata = s.rdata := rfl
@[simp] theorem setSlot_results (i : Nat) (s : State) : (setSlot i s).results = s.results := rfl
@[simp] theorem setSlot_history (i : Nat) (s : State) : (setSlot i s).history = s.history := rfl
@[simp] theorem setSlot_draws (i : Nat) (s : State) : (setSlot i s).draws = s.draws := rfl

@[simp] theorem logRecord_cfg (x : LogRecord) (s : State) : (logRecord x s).cfg = s.cfg := rfl
@[simp] theorem logRecord_eng (x : LogRecord) (s : State) : (logRecord x s).eng = s.eng := rfl
@[simp] theorem logRecord_ctl (x : LogRecord) (s : State) : (logRecord x s).ctl = s.ctl := rfl
@[simp] theorem logRecord_busIdle (x : LogRecord) (s : State) : (logRecord x s).busIdle = s.busIdle := rfl
@[simp] theorem logRecord_sig (x : LogRecord) (s : State) : (logRecord x s).sig = s.sig := rfl
@[simp] theorem logRecord_irqMask (x : LogRecord) (s : State) : (logRecord x s).irqMask = s.irqMask := rfl
@[simp] theorem logRecord_isr (x : LogRecord) (s : State) : (logRecord x s).isr = s.isr := rfl
@[simp] theorem logRecord_inIsr (x : LogRecord) (s : State) : (logRecord x s).inIsr = s.inIsr := rfl
@[simp] theorem logRecord_port (x : LogRecord) (s : State) : (logRecord x s).port = s.port := rfl
@[simp] theorem logRecord_turns (x : LogRecord) (s : State) : (logRecord x s).turns = s.turns := rfl
@[simp] theorem logRecord_rdata (x : LogRecord) (s : State) : (logRecord x s).rdata = s.rdata := rfl
@[simp] theorem logRecord_results (x : LogRecord) (s : State) : (logRecord x s).results = s.results := rfl
@[simp] theorem logRecord_history (x : LogRecord) (s : State) : (logRecord x s).history = .log x :: s.history := rfl
@[simp] theorem logRecord_draws (x : LogRecord) (s : State) : (logRecord x s).draws = s.draws := rfl

@[simp] theorem fifoReset_cfg (s : State) : (fifoReset s).cfg = s.cfg := rfl
@[simp] theorem fifoReset_eng (s : State) : (fifoReset s).eng = s.eng := rfl
@[simp] theorem fifoReset_ctl (s : State) : (fifoReset s).ctl = dropFifosAndFrame s.ctl := rfl
@[simp] theorem fifoReset_busIdle (s : State) : (fifoReset s).busIdle = s.busIdle := rfl
@[simp] theorem fifoReset_sig (s : State) : (fifoReset s).sig = s.sig := rfl
@[simp] theorem fifoReset_irqMask (s : State) : (fifoReset s).irqMask = s.irqMask := rfl
@[simp] theorem fifoReset_isr (s : State) : (fifoReset s).isr = s.isr := rfl
@[simp] theorem fifoReset_inIsr (s : State) : (fifoReset s).inIsr = s.inIsr := rfl
@[simp] theorem fifoReset_port (s : State) : (fifoReset s).port = s.port := rfl
@[simp] theorem fifoReset_turns (s : State) : (fifoReset s).turns = s.turns := rfl
@[simp] theorem fifoReset_rdata (s : State) : (fifoReset s).rdata = s.rdata := rfl
@[simp] theorem fifoReset_results (s : State) : (fifoReset s).results = s.results := rfl
@[simp] theorem fifoReset_history (s : State) : (fifoReset s).history = s.history := rfl
@[simp] theorem fifoReset_draws (s : State) : (fifoReset s).draws = s.draws := rfl

@[simp] theorem post_cfg (s : State) : (post s).cfg = s.cfg := rfl
@[simp] theorem post_eng (s : State) : (post s).eng = s.eng := rfl
@[simp] theorem post_ctl (s : State) : (post s).ctl = s.ctl := rfl
@[simp] theorem post_busIdle (s : State) : (post s).busIdle = s.busIdle := rfl
@[simp] theorem post_sig (s : State) : (post s).sig = true := rfl
@[simp] theorem post_irqMask (s : State) : (post s).irqMask = s.irqMask := rfl
@[simp] theorem post_isr (s : State) : (post s).isr = s.isr := rfl
@[simp] theorem post_inIsr (s : State) : (post s).inIsr = s.inIsr := rfl
@[simp] theorem post_port (s : State) : (post s).port = s.port := rfl
@[simp] theorem post_turns (s : State) : (post s).turns = s.turns := rfl
@[simp] theorem post_rdata (s : State) : (post s).rdata = s.rdata := rfl
@[simp] theorem post_results (s : State) : (post s).results = s.results := rfl
@[simp] theorem post_history (s : State) : (post s).history = s.history := rfl
@[simp] theorem post_draws (s : State) : (post s).draws = s.draws := rfl

end Sys2Proof.Machine
end

