-- ==== Sys2Proof/Laws/RegAccess.lean ====
section
/-! SUPPORT. What a register access can change, once for all registers (40_register_ops.md R80 to R99): never the engine, the parameters, the wire, the signal or the interrupt controller. -/

namespace Sys2Proof.Machine

@[simp] theorem draw_eng (s : State) : (draw s).2.eng = s.eng := rfl
@[simp] theorem draw_ctl (s : State) : (draw s).2.ctl = s.ctl := rfl
@[simp] theorem draw_cfg (s : State) : (draw s).2.cfg = s.cfg := rfl
@[simp] theorem draw_draws (s : State) : (draw s).2.draws = s.draws + 1 := rfl
@[simp] theorem draw_value (s : State) : (draw s).1 = Config.freeByte s.draws := rfl

/-- Of the state outside the controller a read changes at most the count of draws. -/
theorem readReg_outside (r : Reg) (s : State) :
    (readReg r s).2 = { s with ctl := (readReg r s).2.ctl, draws := (readReg r s).2.draws } := by
  cases r <;> try rfl
  simp only [readReg, readRdData]
  split <;> rfl

/-- Of the controller a read changes at most the read FIFO, and only `RD_DATA` does. -/
theorem readReg_ctl (r : Reg) (s : State) :
    (readReg r s).2.ctl = { s.ctl with rfifo := if r = .rdData then s.ctl.rfifo.tail else s.ctl.rfifo } := by
  cases r <;> try rfl
  simp only [readReg, readRdData]
  split <;> rename_i h <;> simp [h, draw]
  cases hc : s.ctl; simp_all

/-- Of the state outside the controller a write changes at most the count of draws. -/
theorem writeReg_outside (r : Reg) (v : Byte) (s : State) :
    writeReg r v s = { s with ctl := (writeReg r v s).ctl, draws := (writeReg r v s).draws } := by
  cases r <;> try rfl
  · simp only [writeReg, writeControl, applyFrst, applyRst]
    split <;> split <;> rfl
  · simp only [writeReg, writeWrData]
    split <;> [rfl; (split <;> rfl)]

@[simp] theorem regRead_cfg (w : Agent) (r : Reg) (s : State) : (regRead w r s).cfg = s.cfg := by
  simp only [regRead, present]; rw [readReg_outside]; rfl
@[simp] theorem regRead_eng (w : Agent) (r : Reg) (s : State) : (regRead w r s).eng = s.eng := by
  simp only [regRead, present]; rw [readReg_outside]; rfl
@[simp] theorem regRead_busIdle (w : Agent) (r : Reg) (s : State) : (regRead w r s).busIdle = s.busIdle := by
  simp only [regRead, present]; rw [readReg_outside]; rfl
@[simp] theorem regRead_sig (w : Agent) (r : Reg) (s : State) : (regRead w r s).sig = s.sig := by
  simp only [regRead, present]; rw [readReg_outside]; rfl
@[simp] theorem regRead_irqMask (w : Agent) (r : Reg) (s : State) : (regRead w r s).irqMask = s.irqMask := by
  simp only [regRead, present]; rw [readReg_outside]; rfl
@[simp] theorem regRead_isr (w : Agent) (r : Reg) (s : State) : (regRead w r s).isr = s.isr := by
  simp only [regRead, present]; rw [readReg_outside]; rfl
@[simp] theorem regRead_inIsr (w : Agent) (r : Reg) (s : State) : (regRead w r s).inIsr = s.inIsr := by
  simp only [regRead, present]; rw [readReg_outside]; rfl
@[simp] theorem regRead_port (w : Agent) (r : Reg) (s : State) : (regRead w r s).port = s.port := by
  simp only [regRead, present]; rw [readReg_outside]; rfl
@[simp] theorem regRead_turns (w : Agent) (r : Reg) (s : State) : (regRead w r s).turns = s.turns := by
  simp only [regRead, present]; rw [readReg_outside]; rfl
@[simp] theorem regRead_results (w : Agent) (r : Reg) (s : State) : (regRead w r s).results = s.results := by
  simp only [regRead, present]; rw [readReg_outside]; rfl
@[simp] theorem regRead_rdata (w : Agent) (r : Reg) (s : State) : (regRead w r s).rdata = (readReg r s).1 := rfl
@[simp] theorem regRead_history (w : Agent) (r : Reg) (s : State) :
    (regRead w r s).history = .rd w r (readReg r s).1 :: s.history := by
  simp only [regRead, present]; rw [readReg_outside]; rfl
@[simp] theorem regRead_ctl (w : Agent) (r : Reg) (s : State) :
    (regRead w r s).ctl = { s.ctl with rfifo := if r = .rdData then s.ctl.rfifo.tail else s.ctl.rfifo } :=
  readReg_ctl r s

@[simp] theorem regWrite_cfg (w : Agent) (r : Reg) (v : Byte) (s : State) : (regWrite w r v s).cfg = s.cfg := by
  simp only [regWrite]; rw [writeReg_outside]; rfl
@[simp] theorem regWrite_eng (w : Agent) (r : Reg) (v : Byte) (s : State) : (regWrite w r v s).eng = s.eng := by
  simp only [regWrite]; rw [writeReg_outside]; rfl
@[simp] theorem regWrite_busIdle (w : Agent) (r : Reg) (v : Byte) (s : State) :
    (regWrite w r v s).busIdle = s.busIdle := by
  simp only [regWrite]; rw [writeReg_outside]; rfl
@[simp] theorem regWrite_sig (w : Agent) (r : Reg) (v : Byte) (s : State) : (regWrite w r v s).sig = s.sig := by
  simp only [regWrite]; rw [writeReg_outside]; rfl
@[simp] theorem regWrite_irqMask (w : Agent) (r : Reg) (v : Byte) (s : State) :
    (regWrite w r v s).irqMask = s.irqMask := by
  simp only [regWrite]; rw [writeReg_outside]; rfl
@[simp] theorem regWrite_isr (w : Agent) (r : Reg) (v : Byte) (s : State) : (regWrite w r v s).isr = s.isr := by
  simp only [regWrite]; rw [writeReg_outside]; rfl
@[simp] theorem regWrite_inIsr (w : Agent) (r : Reg) (v : Byte) (s : State) :
    (regWrite w r v s).inIsr = s.inIsr := by
  simp only [regWrite]; rw [writeReg_outside]; rfl
@[simp] theorem regWrite_port (w : Agent) (r : Reg) (v : Byte) (s : State) : (regWrite w r v s).port = s.port := by
  simp only [regWrite]; rw [writeReg_outside]; rfl
@[simp] theorem regWrite_turns (w : Agent) (r : Reg) (v : Byte) (s : State) :
    (regWrite w r v s).turns = s.turns := by
  simp only [regWrite]; rw [writeReg_outside]; rfl
@[simp] theorem regWrite_rdata (w : Agent) (r : Reg) (v : Byte) (s : State) :
    (regWrite w r v s).rdata = s.rdata := by
  simp only [regWrite]; rw [writeReg_outside]; rfl
@[simp] theorem regWrite_results (w : Agent) (r : Reg) (v : Byte) (s : State) :
    (regWrite w r v s).results = s.results := by
  simp only [regWrite]; rw [writeReg_outside]; rfl
@[simp] theorem regWrite_history (w : Agent) (r : Reg) (v : Byte) (s : State) :
    (regWrite w r v s).history = .wr w r v :: s.history := by
  simp only [regWrite]; rw [writeReg_outside]; rfl
@[simp] theorem regWrite_ctl (w : Agent) (r : Reg) (v : Byte) (s : State) :
    (regWrite w r v s).ctl = (writeReg r v s).ctl := rfl

/-- The four fields of `CONTROL` after a write of it: `TXEN` is forced to 0 under either reset (R81). -/
theorem writeControl_fields (v : Byte) (s : State) :
    (writeControl v s).ctl.pd = hasBit v s.cfg.layout.pd ∧ (writeControl v s).ctl.rst = hasBit v s.cfg.layout.rst ∧
    (writeControl v s).ctl.frst = hasBit v s.cfg.layout.frst ∧
    (writeControl v s).ctl.txen =
      (hasBit v s.cfg.layout.txen && !hasBit v s.cfg.layout.rst && !hasBit v s.cfg.layout.frst) := by
  by_cases h1 : hasBit v s.cfg.layout.rst <;> by_cases h2 : hasBit v s.cfg.layout.frst <;> by_cases h3 : s.cfg.rstClearsStatus <;>
    simp [writeControl, applyFrst, applyRst, controllerReset, fifoReset, loseBitTiming, clearStatus,
      dropFifosAndFrame, assignControl, h1, h2, h3]

/-- A write of `CONTROL` without either reset bit changes its four fields alone. -/
theorem writeControl_plain (v : Byte) (s : State) (h1 : hasBit v s.cfg.layout.rst = false)
    (h2 : hasBit v s.cfg.layout.frst = false) :
    writeControl v s = { s with ctl := assignControl s.cfg.layout v s.ctl } := by
  simp [writeControl, applyFrst, applyRst, assignControl, h1, h2]

/-- The interrupt enables survive every write of another register (R81, R282). -/
theorem writeControl_intEn (v : Byte) (s : State) :
    (writeControl v s).ctl.intEn1 = s.ctl.intEn1 ∧ (writeControl v s).ctl.intEn2 = s.ctl.intEn2 := by
  by_cases h1 : hasBit v s.cfg.layout.rst <;> by_cases h2 : hasBit v s.cfg.layout.frst <;> by_cases h3 : s.cfg.rstClearsStatus <;>
    simp [writeControl, applyFrst, applyRst, controllerReset, fifoReset, loseBitTiming, clearStatus,
      dropFifosAndFrame, assignControl, h1, h2, h3]

end Sys2Proof.Machine
end

