-- ==== Sys2Proof/Laws/Agents.lean ====
section
/-! SUPPORT. What the agents beside the engine leave alone, whatever they do and in whatever order (48_controller_agent.md R213): the parameters, the engine, the power and reset bits, the bit timing, the interrupt enables, the mask, the result port. -/

namespace Sys2Proof.Machine

/-- The part of the state that only software and the engine write. -/
structure SameForSoftware (a b : State) : Prop where
  cfg : b.cfg = a.cfg
  eng : b.eng = a.eng
  irqMask : b.irqMask = a.irqMask
  inIsr : b.inIsr = a.inIsr
  results : b.results = a.results
  draws : b.draws = a.draws
  pd : b.ctl.pd = a.ctl.pd
  rst : b.ctl.rst = a.ctl.rst
  frst : b.ctl.frst = a.ctl.frst
  btLow : b.ctl.btLow = a.ctl.btLow
  btHigh : b.ctl.btHigh = a.ctl.btHigh
  intEn1 : b.ctl.intEn1 = a.ctl.intEn1
  intEn2 : b.ctl.intEn2 = a.ctl.intEn2

theorem SameForSoftware.rfl (s : State) : SameForSoftware s s := by
  constructor <;> exact Eq.refl _

theorem SameForSoftware.trans {a b c : State} (h : SameForSoftware a b) (k : SameForSoftware b c) :
    SameForSoftware a c :=
  ⟨k.cfg.trans h.cfg, k.eng.trans h.eng, k.irqMask.trans h.irqMask, k.inIsr.trans h.inIsr,
   k.results.trans h.results, k.draws.trans h.draws, k.pd.trans h.pd, k.rst.trans h.rst,
   k.frst.trans h.frst, k.btLow.trans h.btLow, k.btHigh.trans h.btHigh, k.intEn1.trans h.intEn1,
   k.intEn2.trans h.intEn2⟩

theorem handlerStep_same (s : State) : SameForSoftware s (handlerStep s) := by
  unfold handlerStep
  split
  · constructor <;> simp [handlerH0, regRead, readReg, readError, present, record]
  · constructor <;> simp [handlerH1, regRead, readReg, readStatus1, present, record]
  · constructor <;> simp [handlerH2, regRead, readReg, readStatus2, present, record]
  · constructor <;> simp [handlerH3, regWrite, writeReg, writeStatus1, record]
  · simp only [handlerH4]; split <;> constructor <;> simp
  · simp only [handlerH5]; split <;> constructor <;> simp

theorem isrStep_same (s : State) : SameForSoftware s (isrStep s) := by
  unfold isrStep; split
  · exact handlerStep_same s
  · exact SameForSoftware.rfl s

/-- One step of another agent. -/
theorem agentStep_same (t : Turn) (s : State) : SameForSoftware s (agentStep t s) := by
  cases t <;> simp only [agentStep]
  case eng => exact SameForSoftware.rfl s
  case expire => exact SameForSoftware.rfl s
  case isr => exact isrStep_same s
  case ctlTx =>
    unfold ctlTx; split
    · split <;> constructor <;> simp
    · exact SameForSoftware.rfl s
  case ctlRx b =>
    unfold ctlRx; split
    · split <;> constructor <;> simp
    · exact SameForSoftware.rfl s
  case ctlStart => unfold ctlStart; split <;> constructor <;> simp
  case ctlUnderrun => unfold ctlUnderrun; split <;> constructor <;> simp
  case ctlEof => unfold ctlEof; split <;> constructor <;> simp
  case ctlEnd => unfold ctlEnd; split <;> constructor <;> simp
  case ctlErr m => unfold ctlErr; split <;> constructor <;> simp
  case envBus v => unfold envBus; split <;> constructor <;> simp
  case envErr m => unfold envErr; split <;> constructor <;> simp
  case host b => unfold offer; split <;> constructor <;> simp
  case platform w => unfold offer; split <;> constructor <;> simp

/-- At an idle engine and an empty port the offer stands at the port. -/
theorem offer_taken {s : State} (x : Issue) (hp : s.eng.phase = .idle) (hn : s.port = none) :
    offer x s = { s with port := some x } := by simp [offer, hp, hn]

/-- Else it changes nothing (47_public_ops.md R194). -/
theorem offer_refused {s : State} (x : Issue) (h : s.eng.phase ≠ .idle ∨ s.port ≠ none) : offer x s = s :=
  if_neg fun k => h.elim (fun hp => hp k.1) fun hn => hn k.2

theorem othersFrom_nil (s : State) : othersFrom [] s = { s with turns := [] } := rfl
theorem othersFrom_eng (l : List Turn) (s : State) : othersFrom (.eng :: l) s = { s with turns := l } := rfl
theorem othersFrom_other {t : Turn} (h : t ≠ .eng) (l : List Turn) (s : State) :
    othersFrom (t :: l) s = othersFrom l (agentStep t s) := by
  cases t <;> simp_all [othersFrom]

/-- With nobody else's turn to come, the other agents do nothing. -/
@[simp] theorem others_quiet {s : State} (h : s.turns = []) : others s = s := by
  unfold others; rw [h]; cases s; simp_all [othersFrom]

/-- At the engine's own turn nobody else moves. -/
theorem others_eng {s : State} {l : List Turn} (h : s.turns = .eng :: l) : others s = { s with turns := l } := by
  unfold others; rw [h, othersFrom_eng]

theorem othersFrom_same (l : List Turn) (s : State) : SameForSoftware s (othersFrom l s) := by
  induction l generalizing s with
  | nil => constructor <;> simp [othersFrom]
  | cons t l ih =>
    by_cases h : t = .eng
    · subst h; constructor <;> simp [othersFrom]
    · rw [othersFrom_other h]; exact (agentStep_same t s).trans (ih _)

/-- Any number of steps of the other agents. -/
theorem others_same (s : State) : SameForSoftware s (others s) := othersFrom_same s.turns s

@[simp] theorem others_cfg (s : State) : (others s).cfg = s.cfg := (others_same s).cfg
@[simp] theorem others_eng_same (s : State) : (others s).eng = s.eng := (others_same s).eng
@[simp] theorem others_irqMask (s : State) : (others s).irqMask = s.irqMask := (others_same s).irqMask
@[simp] theorem others_inIsr (s : State) : (others s).inIsr = s.inIsr := (others_same s).inIsr
@[simp] theorem others_results (s : State) : (others s).results = s.results := (others_same s).results
@[simp] theorem others_draws (s : State) : (others s).draws = s.draws := (others_same s).draws
@[simp] theorem others_pd (s : State) : (others s).ctl.pd = s.ctl.pd := (others_same s).pd
@[simp] theorem others_rst (s : State) : (others s).ctl.rst = s.ctl.rst := (others_same s).rst
@[simp] theorem others_frst (s : State) : (others s).ctl.frst = s.ctl.frst := (others_same s).frst
@[simp] theorem others_btLow (s : State) : (others s).ctl.btLow = s.ctl.btLow := (others_same s).btLow
@[simp] theorem others_btHigh (s : State) : (others s).ctl.btHigh = s.ctl.btHigh := (others_same s).btHigh
@[simp] theorem others_intEn1 (s : State) : (others s).ctl.intEn1 = s.ctl.intEn1 := (others_same s).intEn1
@[simp] theorem others_intEn2 (s : State) : (others s).ctl.intEn2 = s.ctl.intEn2 := (others_same s).intEn2

end Sys2Proof.Machine
end

