-- ==== Sys2Proof/Laws/EngineSteps.lean ====
section
/-! SUPPORT. What one engine step does to the engine's own record, whatever the other agents do after it: a load latches the value read, a store and a delay change nothing of it. -/

namespace Sys2Proof.Machine

@[simp] theorem loadStatus_eng (r : Reg) (s : State) :
    (loadStatus r s).eng = { s.eng with s := (readReg r s).1 } := by simp [loadStatus]
@[simp] theorem loadControl_eng (s : State) :
    (loadControl s).eng = { s.eng with c := controlByte s.cfg.layout s.ctl } := by
  simp [loadControl, readReg, readControl]
@[simp] theorem loadError_eng (s : State) : (loadError s).eng = { s.eng with e := s.ctl.error } := by
  simp [loadError, readReg, readError]
@[simp] theorem loadData_eng (s : State) :
    (loadData s).eng = { s.eng with b := (readRdData s).1 } := by simp [loadData, readReg]
@[simp] theorem store_eng (r : Reg) (v : Byte) (s : State) : (store r v s).eng = s.eng := by simp [store]
@[simp] theorem delayUs_eng (n : Nat) (s : State) : (delayUs n s).eng = s.eng := by simp [delayUs]
@[simp] theorem sleepMs_eng (n : Nat) (s : State) : (sleepMs n s).eng = s.eng := by simp [sleepMs]

@[simp] theorem loadStatus_cfg (r : Reg) (s : State) : (loadStatus r s).cfg = s.cfg := by simp [loadStatus]
@[simp] theorem loadControl_cfg (s : State) : (loadControl s).cfg = s.cfg := by simp [loadControl]
@[simp] theorem loadError_cfg (s : State) : (loadError s).cfg = s.cfg := by simp [loadError]
@[simp] theorem loadData_cfg (s : State) : (loadData s).cfg = s.cfg := by simp [loadData]
@[simp] theorem store_cfg (r : Reg) (v : Byte) (s : State) : (store r v s).cfg = s.cfg := by simp [store]
@[simp] theorem delayUs_cfg (n : Nat) (s : State) : (delayUs n s).cfg = s.cfg := by simp [delayUs]
@[simp] theorem sleepMs_cfg (n : Nat) (s : State) : (sleepMs n s).cfg = s.cfg := by simp [sleepMs]

@[simp] theorem setControl_eng (field : Layout → Fin 8) (s : State) :
    (setControl field s).eng = { s.eng with c := controlByte s.cfg.layout s.ctl } := by
  simp [setControl, storeControlOr]
@[simp] theorem clearControl_eng (field : Layout → Fin 8) (s : State) :
    (clearControl field s).eng = { s.eng with c := controlByte s.cfg.layout s.ctl } := by
  simp [clearControl, storeControlAndNot]
@[simp] theorem setControl_cfg (field : Layout → Fin 8) (s : State) : (setControl field s).cfg = s.cfg := by
  simp [setControl, storeControlOr]
@[simp] theorem clearControl_cfg (field : Layout → Fin 8) (s : State) : (clearControl field s).cfg = s.cfg := by
  simp [clearControl, storeControlAndNot]

@[simp] theorem setTimeouts_eng (n : Word) (s : State) :
    (setTimeouts n s).eng = { s.eng with tocnt := n } := by simp [setTimeouts]
@[simp] theorem setTimeouts_cfg (n : Word) (s : State) : (setTimeouts n s).cfg = s.cfg := by simp [setTimeouts]

/-- A read of a status register by the engine leaves the power and reset bits. -/
theorem loadStatus_power (r : Reg) (s : State) :
    (loadStatus r s).ctl.pd = s.ctl.pd ∧ (loadStatus r s).ctl.rst = s.ctl.rst ∧
    (loadStatus r s).ctl.frst = s.ctl.frst := by simp [loadStatus]

/-- A delay leaves the power and reset bits. -/
theorem delayUs_power (n : Nat) (s : State) :
    (delayUs n s).ctl.pd = s.ctl.pd ∧ (delayUs n s).ctl.rst = s.ctl.rst ∧
    (delayUs n s).ctl.frst = s.ctl.frst := by simp [delayUs]

/-- A read of `CONTROL` by the engine leaves the power and reset bits. -/
theorem loadControl_power (s : State) :
    (loadControl s).ctl.pd = s.ctl.pd ∧ (loadControl s).ctl.rst = s.ctl.rst ∧
    (loadControl s).ctl.frst = s.ctl.frst := by simp [loadControl]

/-- The control fields after a read-modify-write that sets one: it is 1 and the others are as read, but `TXEN` is 0 under a reset. -/
theorem setControl_fields (field : Layout → Fin 8) (s : State) :
    (setControl field s).ctl.pd = (s.ctl.pd || decide (field s.cfg.layout = s.cfg.layout.pd)) ∧
    (setControl field s).ctl.rst = (s.ctl.rst || decide (field s.cfg.layout = s.cfg.layout.rst)) ∧
    (setControl field s).ctl.frst = (s.ctl.frst || decide (field s.cfg.layout = s.cfg.layout.frst)) := by
  have h := writeControl_fields (controlByte s.cfg.layout s.ctl ||| bit (field s.cfg.layout)) (loadControl s)
  simp only [setControl, storeControlOr, store, others_pd, others_rst, others_frst, regWrite_ctl, writeReg,
    loadControl_eng, loadControl_cfg]
  refine ⟨h.1.trans ?_, h.2.1.trans ?_, h.2.2.1.trans ?_⟩ <;> simp

/-- The control fields after a read-modify-write that clears one: it is 0 and the others are as read. -/
theorem clearControl_fields (field : Layout → Fin 8) (s : State) :
    (clearControl field s).ctl.pd = (s.ctl.pd && !decide (field s.cfg.layout = s.cfg.layout.pd)) ∧
    (clearControl field s).ctl.rst = (s.ctl.rst && !decide (field s.cfg.layout = s.cfg.layout.rst)) ∧
    (clearControl field s).ctl.frst = (s.ctl.frst && !decide (field s.cfg.layout = s.cfg.layout.frst)) := by
  have h := writeControl_fields (controlByte s.cfg.layout s.ctl &&& ~~~bit (field s.cfg.layout)) (loadControl s)
  simp only [clearControl, storeControlAndNot, store, others_pd, others_rst, others_frst, regWrite_ctl,
    writeReg, loadControl_eng, loadControl_cfg]
  refine ⟨h.1.trans ?_, h.2.1.trans ?_, h.2.2.1.trans ?_⟩ <;> simp

end Sys2Proof.Machine
end

