-- ==== Sys2Proof/Laws/Record.lean ====
section
/-! SUPPORT. The engine's persistent record, its open calls and the platform's registers through every sub-operation, under any turn order (10_state.md R12 to R14, R19, R28): one relation, and one lemma a sub-operation that says it is kept. -/

namespace Sys2Proof.Machine

/-- What only CONFIGURE, the end of WRITE, TRANSFER, ENABLE, DISABLE and the platform write, and the calls under way. -/
structure KeepsRecord (a b : State) : Prop where
  cfg : b.cfg = a.cfg
  bitrate : b.eng.bitrate = a.eng.bitrate
  tocnt : b.eng.tocnt = a.eng.tocnt
  req : b.eng.req = a.eng.req
  calls : b.eng.calls = a.eng.calls
  irqMask : b.irqMask = a.irqMask
  inIsr : b.inIsr = a.inIsr
  results : b.results = a.results
  intEn1 : b.ctl.intEn1 = a.ctl.intEn1
  intEn2 : b.ctl.intEn2 = a.ctl.intEn2

theorem KeepsRecord.rfl (s : State) : KeepsRecord s s := by constructor <;> exact Eq.refl _

theorem KeepsRecord.trans {a b c : State} (h : KeepsRecord a b) (k : KeepsRecord b c) : KeepsRecord a c :=
  ⟨k.cfg.trans h.cfg, k.bitrate.trans h.bitrate, k.tocnt.trans h.tocnt, k.req.trans h.req,
   k.calls.trans h.calls,
   k.irqMask.trans h.irqMask, k.inIsr.trans h.inIsr, k.results.trans h.results, k.intEn1.trans h.intEn1,
   k.intEn2.trans h.intEn2⟩

/-- A write of a register that is no interrupt enable keeps the enables. -/
theorem writeReg_intEn (r : Reg) (v : Byte) (s : State) (h1 : r ≠ .intEn1) (h2 : r ≠ .intEn2) :
    (writeReg r v s).ctl.intEn1 = s.ctl.intEn1 ∧ (writeReg r v s).ctl.intEn2 = s.ctl.intEn2 := by
  cases r <;> first | contradiction | exact writeControl_intEn v s | exact ⟨rfl, rfl⟩ | skip
  simp only [writeReg, writeWrData]
  split <;> [exact ⟨rfl, rfl⟩; (split <;> exact ⟨rfl, rfl⟩)]

/-! The engine's own steps. -/

theorem others_keeps (s : State) : KeepsRecord s (others s) := by constructor <;> simp
theorem goto_keeps (l : Label) (s : State) : KeepsRecord s (goto l s) := by constructor <;> rfl
theorem setAttempts_keeps (n : Nat) (s : State) : KeepsRecord s (setAttempts n s) := by constructor <;> rfl
theorem countAttempt_keeps (s : State) : KeepsRecord s (countAttempt s) := by constructor <;> rfl
theorem returnOk_keeps (s : State) : KeepsRecord s (returnOk s) := by constructor <;> rfl
theorem raiseErr_keeps (k : ErrKind) (s : State) : KeepsRecord s (raiseErr k s) := by constructor <;> rfl
theorem logRecord_keeps (x : LogRecord) (s : State) : KeepsRecord s (logRecord x s) := by constructor <;> rfl
theorem toIdle_keeps (s : State) : KeepsRecord s (toIdle s) := by constructor <;> rfl

theorem settleResponse_keeps (s : State) : KeepsRecord s (settleResponse s) := by
  unfold settleResponse; split
  · exact KeepsRecord.rfl s
  · constructor <;> rfl

theorem loadStatus_keeps (r : Reg) (s : State) : KeepsRecord s (loadStatus r s) := by
  constructor <;> simp [loadStatus]
theorem loadControl_keeps (s : State) : KeepsRecord s (loadControl s) := by constructor <;> simp [loadControl]
theorem loadError_keeps (s : State) : KeepsRecord s (loadError s) := by constructor <;> simp [loadError]
theorem loadData_keeps (s : State) : KeepsRecord s (loadData s) := by constructor <;> simp [loadData]
theorem delayUs_keeps (n : Nat) (s : State) : KeepsRecord s (delayUs n s) := by constructor <;> simp [delayUs]
theorem sleepMs_keeps (n : Nat) (s : State) : KeepsRecord s (sleepMs n s) := by constructor <;> simp [sleepMs]

theorem store_keeps (r : Reg) (v : Byte) (s : State) (h1 : r ≠ .intEn1) (h2 : r ≠ .intEn2) :
    KeepsRecord s (store r v s) := by
  constructor <;> simp [store, writeReg_intEn r v s h1 h2]

theorem setControl_keeps (field : Layout → Fin 8) (s : State) : KeepsRecord s (setControl field s) :=
  (loadControl_keeps s).trans (store_keeps _ _ _ (by decide) (by decide))

theorem clearControl_keeps (field : Layout → Fin 8) (s : State) : KeepsRecord s (clearControl field s) :=
  (loadControl_keeps s).trans (store_keeps _ _ _ (by decide) (by decide))

/-- A call keeps the record when the sub-operation does. -/
theorem call_keeps (c : CallSite) {f : State → State} (hf : ∀ t, KeepsRecord t (f t)) (s : State) :
    KeepsRecord s (call c f s) := by
  have h := hf (enter c s)
  exact ⟨h.cfg, h.bitrate, h.tocnt, h.req, by simp [call, h.calls], h.irqMask, h.inIsr, h.results, h.intEn1,
    h.intEn2⟩

/-! WAIT_IDLE and the completion waits. -/

theorem idlePoll_keeps (s : State) : KeepsRecord s (idlePoll s) :=
  (goto_keeps _ s).trans (loadStatus_keeps _ _)

theorem idleCount_keeps (s : State) : KeepsRecord s (idleCount s) :=
  ((goto_keeps _ s).trans (countAttempt_keeps _)).trans ((goto_keeps _ _).trans (goto_keeps _ _))

theorem idleDelay_keeps (s : State) : KeepsRecord s (idleDelay s) :=
  ((goto_keeps _ s).trans (delayUs_keeps _ _)).trans (idleCount_keeps _)

theorem idleDecide_keeps {again : State → State} (h : ∀ t, KeepsRecord t (again t)) (s : State) :
    KeepsRecord s (idleDecide again s) := by
  unfold idleDecide; split
  · exact (goto_keeps _ s).trans (returnOk_keeps _)
  · exact ((goto_keeps _ s).trans (idleDelay_keeps _)).trans (h _)

theorem idleLoop_keeps (n : Nat) (s : State) : KeepsRecord s (idleLoop n s) := by
  induction n generalizing s with
  | zero => exact (goto_keeps _ _).trans (raiseErr_keeps _ _)
  | succ n ih => exact (idlePoll_keeps s).trans (idleDecide_keeps ih _)

theorem waitIdle_keeps (s : State) : KeepsRecord s (waitIdle s) :=
  ((goto_keeps _ s).trans (setAttempts_keeps _ _)).trans (idleLoop_keeps _ _)

theorem txPoll_keeps (s : State) : KeepsRecord s (txPoll s) :=
  (goto_keeps _ s).trans (loadStatus_keeps _ _)

theorem txCount_keeps (s : State) : KeepsRecord s (txCount s) :=
  ((goto_keeps _ s).trans (countAttempt_keeps _)).trans ((goto_keeps _ _).trans (goto_keeps _ _))

theorem txDelay_keeps (s : State) : KeepsRecord s (txDelay s) :=
  ((goto_keeps _ s).trans (delayUs_keeps _ _)).trans (txCount_keeps _)

theorem txDecide_keeps {again : State → State} (h : ∀ t, KeepsRecord t (again t)) (s : State) :
    KeepsRecord s (txDecide again s) := by
  unfold txDecide; split
  · exact (goto_keeps _ s).trans (returnOk_keeps _)
  · exact ((goto_keeps _ s).trans (txDelay_keeps _)).trans (h _)

theorem pollLoop_keeps (n : Nat) (s : State) : KeepsRecord s (pollLoop n s) := by
  induction n generalizing s with
  | zero => exact (goto_keeps _ _).trans (raiseErr_keeps _ _)
  | succ n ih => exact (txPoll_keeps s).trans (txDecide_keeps ih _)

theorem waitPoll_keeps (s : State) : KeepsRecord s (waitPoll s) :=
  ((goto_keeps _ s).trans (setAttempts_keeps _ _)).trans (pollLoop_keeps _ _)

theorem agentStep_keeps (t : Turn) (s : State) : KeepsRecord s (agentStep t s) := by
  have h := agentStep_same t s
  constructor <;> simp [h.cfg, h.eng, h.irqMask, h.inIsr, h.results, h.intEn1, h.intEn2]

theorem takeSignal_keeps (s : State) : KeepsRecord s (takeSignal s) := by constructor <;> rfl
theorem expireWait_keeps (s : State) : KeepsRecord s (expireWait s) := by constructor <;> rfl

theorem decideEvent_keeps (s : State) : KeepsRecord s (decideEvent s) := by
  unfold decideEvent; split
  · exact takeSignal_keeps s
  · exact expireWait_keeps s

theorem setTurns_keeps (l : List Turn) (s : State) : KeepsRecord s { s with turns := l } := by
  constructor <;> rfl

theorem eventLoop_keeps (l : List Turn) (s : State) : KeepsRecord s (eventLoop l s) := by
  induction l generalizing s with
  | nil => exact (setTurns_keeps [] s).trans (decideEvent_keeps _)
  | cons t l ih =>
    cases t with
    | eng =>
      unfold eventLoop; split
      · exact (setTurns_keeps l s).trans (takeSignal_keeps _)
      · exact ih s
    | expire =>
      unfold eventLoop; split
      · exact ih s
      · exact (setTurns_keeps l s).trans (expireWait_keeps _)
    | _ => exact (agentStep_keeps _ s).trans (ih _)

theorem waitEvent_keeps (len : Byte) (s : State) : KeepsRecord s (waitEvent len s) := by
  unfold waitEvent; split
  · exact (goto_keeps _ _).trans (decideEvent_keeps _)
  · exact (goto_keeps _ _).trans (eventLoop_keeps _ _)

theorem waitComplete_keeps (len : Byte) (s : State) : KeepsRecord s (waitComplete len s) := by
  unfold waitComplete; split
  · exact waitPoll_keeps s
  · exact waitEvent_keeps len s

/-! RECOVER and FINISH. -/

theorem recoverFifo_keeps (s : State) : KeepsRecord s (recoverFifo s) :=
  (goto_keeps _ _).trans (setControl_keeps _ _)

theorem assertReset_keeps (s : State) : KeepsRecord s (assertReset s) :=
  (goto_keeps _ s).trans (store_keeps _ _ _ (by decide) (by decide))

theorem holdReset_keeps (b : Bool) (s : State) : KeepsRecord s (holdReset b s) := by
  unfold holdReset; split
  · exact (goto_keeps _ _).trans (delayUs_keeps _ _)
  · exact (goto_keeps _ _).trans (sleepMs_keeps _ _)

theorem releaseReset_keeps (s : State) : KeepsRecord s (releaseReset s) :=
  (goto_keeps _ _).trans (clearControl_keeps _ _)

theorem classify_keeps (field : Layout → Fin 8) (x : ErrorClass) (s : State) :
    KeepsRecord s (classify field x s) := by
  unfold classify; split
  · exact logRecord_keeps _ s
  · exact KeepsRecord.rfl s

theorem readEof_keeps (s : State) : KeepsRecord s (readEof s) := (goto_keeps _ s).trans (loadStatus_keeps _ _)

theorem clearEof_keeps (s : State) : KeepsRecord s (clearEof s) := by
  unfold clearEof; split
  · exact (goto_keeps _ _).trans (store_keeps _ _ _ (by decide) (by decide))
  · exact goto_keeps _ s

theorem readErrors_keeps (s : State) : KeepsRecord s (readErrors s) := (goto_keeps _ s).trans (loadError_keeps _)

theorem classifyErrors_keeps (s : State) : KeepsRecord s (classifyErrors s) :=
  (((goto_keeps _ s).trans (classify_keeps _ _ _)).trans (classify_keeps _ _ _)).trans (classify_keeps _ _ _)

theorem clearErrors_keeps (s : State) : KeepsRecord s (clearErrors s) :=
  (goto_keeps _ s).trans (store_keeps _ _ _ (by decide) (by decide))

theorem failFinish_keeps (s : State) : KeepsRecord s (failFinish s) := (goto_keeps _ s).trans (raiseErr_keeps _ _)

theorem finishFromF6_keeps (s : State) : KeepsRecord s (finishFromF6 s) :=
  ((goto_keeps _ s).trans (call_keeps _ recoverFifo_keeps _)).trans (failFinish_keeps _)

theorem finishFromF4_keeps (s : State) : KeepsRecord s (finishFromF4 s) :=
  ((classifyErrors_keeps s).trans (clearErrors_keeps _)).trans (finishFromF6_keeps _)

theorem judge_keeps (s : State) : KeepsRecord s (judge s) := by
  unfold judge; split
  · exact (goto_keeps _ s).trans (returnOk_keeps _)
  · exact (goto_keeps _ s).trans (finishFromF4_keeps _)

/-- FINISH keeps the record whatever its result. -/
theorem finish_keeps (s : State) : KeepsRecord s (finish s) :=
  (((readEof_keeps s).trans (clearEof_keeps _)).trans (readErrors_keeps _)).trans (judge_keeps _)

/-! WRITE up to the completion wait. -/

theorem pushGuarded_keeps (b : Byte) (s : State) : KeepsRecord s (pushGuarded b s) := by
  unfold pushGuarded; split
  · exact KeepsRecord.rfl s
  · exact store_keeps _ _ _ (by decide) (by decide)

theorem guardRead_keeps (j : Byte) (s : State) : KeepsRecord s (guardRead j s) :=
  KeepsRecord.trans (b := { s with eng := { s.eng with j := j } }) (by constructor <;> rfl) (loadStatus_keeps _ _)

theorem pushPayload_keeps (l : List Byte) (j : Byte) (s : State) : KeepsRecord s (pushPayload l j s) := by
  induction l generalizing j s with
  | nil => exact KeepsRecord.rfl s
  | cons b rest ih => exact ((guardRead_keeps j s).trans (pushGuarded_keeps b _)).trans (ih _ _)

theorem pushHeader_keeps (s : State) : KeepsRecord s (pushHeader s) :=
  (((goto_keeps _ s).trans (store_keeps _ _ _ (by decide) (by decide))).trans
    (store_keeps _ _ _ (by decide) (by decide))).trans (store_keeps _ _ _ (by decide) (by decide))

theorem pushBody_keeps (s : State) : KeepsRecord s (pushBody s) := by
  unfold pushBody; split
  · exact goto_keeps _ s
  · exact ((goto_keeps _ s).trans (store_keeps _ _ _ (by decide) (by decide))).trans (pushPayload_keeps _ _ _)

theorem checkIdle_keeps (s : State) : KeepsRecord s (checkIdle s) :=
  (goto_keeps _ s).trans (call_keeps _ waitIdle_keeps _)

theorem trigger_keeps (s : State) : KeepsRecord s (trigger s) :=
  ((goto_keeps _ s).trans (setControl_keeps _ _)).trans (delayUs_keeps _ _)

theorem awaitCompletion_keeps (s : State) : KeepsRecord s (awaitCompletion s) :=
  (goto_keeps _ s).trans (call_keeps _ (waitComplete_keeps _) _)

/-! READ. -/

theorem rxPoll_keeps (s : State) : KeepsRecord s (rxPoll s) := (goto_keeps _ s).trans (loadStatus_keeps _ _)

theorem rxDelay_keeps (s : State) : KeepsRecord s (rxDelay s) := (delayUs_keeps _ s).trans (countAttempt_keeps _)

theorem rxDecide_keeps {again : State → State} (h : ∀ t, KeepsRecord t (again t)) (s : State) :
    KeepsRecord s (rxDecide again s) := by
  unfold rxDecide; split
  · exact ((goto_keeps _ s).trans (rxDelay_keeps _)).trans (h _)
  · exact (goto_keeps _ s).trans (returnOk_keeps _)

theorem slotWait_keeps (n : Nat) (s : State) : KeepsRecord s (slotWait n s) := by
  induction n generalizing s with
  | zero => exact raiseErr_keeps _ s
  | succ n ih => exact (rxPoll_keeps s).trans (rxDecide_keeps ih _)

theorem awaitSlot_keeps (s : State) : KeepsRecord s (awaitSlot s) :=
  ((goto_keeps _ s).trans (setAttempts_keeps _ _)).trans (slotWait_keeps _ _)

theorem popSlot_keeps (s : State) : KeepsRecord s (popSlot s) := (goto_keeps _ s).trans (loadData_keeps _)

theorem setSlot_keeps (i : Nat) (s : State) : KeepsRecord s (setSlot i s) := by constructor <;> rfl

theorem placeByte_keeps (cmd : Byte) (len : Half) (s : State) : KeepsRecord s (placeByte cmd len s) := by
  unfold placeByte; split
  · split <;> constructor <;> rfl
  · split <;> constructor <;> rfl

theorem keepByte_keeps (cmd : Byte) (len : Half) {again : State → State} (h : ∀ t, KeepsRecord t (again t))
    (s : State) : KeepsRecord s (keepByte cmd len again s) := by
  unfold keepByte; split
  · exact (goto_keeps _ s).trans (placeByte_keeps _ _ _)
  · exact (((goto_keeps _ s).trans (placeByte_keeps _ _ _)).trans (setSlot_keeps _ _)).trans (h _)

theorem takeByte_keeps (cmd : Byte) (len : Half) {again : State → State} (h : ∀ t, KeepsRecord t (again t))
    (s : State) : KeepsRecord s (takeByte cmd len again s) := by
  unfold takeByte; split
  · exact (popSlot_keeps s).trans (keepByte_keeps _ _ h _)
  · exact KeepsRecord.rfl s

theorem slotLoop_keeps (cmd : Byte) (len : Half) (left : Nat) (s : State) :
    KeepsRecord s (slotLoop cmd len left s) := by
  induction left generalizing s with
  | zero => exact KeepsRecord.rfl s
  | succ left ih => exact (awaitSlot_keeps s).trans (takeByte_keeps _ _ ih _)

theorem checkLength_keeps (len : Half) (s : State) : KeepsRecord s (checkLength len s) := by
  unfold checkLength; split <;> constructor <;> rfl

theorem concludeRead_keeps (s : State) : KeepsRecord s (concludeRead s) := by
  unfold concludeRead; split
  · exact (goto_keeps _ s).trans (returnOk_keeps _)
  · exact KeepsRecord.rfl s

theorem readFromD8_keeps (s : State) : KeepsRecord s (readFromD8 s) :=
  ((goto_keeps _ s).trans (call_keeps _ waitIdle_keeps _)).trans (concludeRead_keeps _)

theorem afterSlots_keeps (len : Half) (s : State) : KeepsRecord s (afterSlots len s) := by
  unfold afterSlots; split
  · exact (checkLength_keeps _ s).trans (readFromD8_keeps _)
  · exact KeepsRecord.rfl s

theorem startRead_keeps (s : State) : KeepsRecord s (startRead s) := by constructor <;> rfl

/-- READ keeps the record whatever its result. -/
theorem read_keeps (len : Half) (cmd : Byte) (s : State) : KeepsRecord s (read len cmd s) :=
  ((startRead_keeps s).trans ((setSlot_keeps _ _).trans (slotLoop_keeps _ _ _ _))).trans (afterSlots_keeps _ _)

/-! TRANSFER after WRITE. -/

theorem readPhase_keeps (s : State) : KeepsRecord s (readPhase s) := by
  unfold readPhase; split
  · exact (goto_keeps _ s).trans (call_keeps _ (fun t => read_keeps _ _ t) _)
  · exact goto_keeps _ s

theorem concludeTransfer_keeps (s : State) : KeepsRecord s (concludeTransfer s) := by
  unfold concludeTransfer; split
  · exact (goto_keeps _ s).trans (returnOk_keeps _)
  · exact KeepsRecord.rfl s

theorem transferFromT4_keeps (s : State) : KeepsRecord s (transferFromT4 s) :=
  ((goto_keeps _ s).trans (call_keeps _ finish_keeps _)).trans (concludeTransfer_keeps _)

/-- READ and FINISH inside TRANSFER keep the record. -/
theorem afterWrite_keeps (s : State) : KeepsRecord s (afterWrite s) := by
  unfold afterWrite afterRead; split
  · refine (readPhase_keeps s).trans ?_
    split
    · exact transferFromT4_keeps _
    · exact KeepsRecord.rfl _
  · exact KeepsRecord.rfl s

end Sys2Proof.Machine
end

