-- ==== Sys2Proof/Laws/Operation.lean ====
section
/-! SUPPORT. What an operation from `IDLE` to `IDLE` can do, said once: `andThen`, `runOperation`, `endOperation`, a call that may fault, `unwind`, `resume` (47_public_ops.md R194, 60_exceptions.md R236, 10_state.md R19). -/

namespace Sys2Proof.Machine

@[simp] theorem andThen_ok (s : State) (f : State → Host.Outcome State Fault Refusal) :
    andThen (.next s) f = f s := rfl
@[simp] theorem andThen_fault (x : Fault) (f : State → Host.Outcome State Fault Refusal) :
    andThen (.fault x) f = .fault x := rfl
@[simp] theorem andThen_refused (x : Refusal) (f : State → Host.Outcome State Fault Refusal) :
    andThen (.refused x) f = .refused x := rfl

/-- A next state comes from a next state. -/
theorem andThen_next {r : Host.Outcome State Fault Refusal} {f : State → Host.Outcome State Fault Refusal}
    {u : State} (h : andThen r f = .next u) : ∃ t, r = .next t ∧ f t = .next u := by
  cases r with
  | next t => exact ⟨t, rfl, h⟩
  | fault x => simp at h
  | refused x => simp at h

/-- Every operation ends with `phase = IDLE` (R194). -/
@[simp] theorem endOperation_phase (op : EngOp) (s : State) : (endOperation op s).eng.phase = .idle := by
  cases op <;> rfl

/-- The end of an operation writes no register and lets no agent move. -/
theorem endOperation_outside (op : EngOp) (s : State) :
    (endOperation op s).ctl = s.ctl ∧ (endOperation op s).cfg = s.cfg ∧ (endOperation op s).turns = s.turns ∧
    (endOperation op s).history = s.history ∧ (endOperation op s).eng.calls = s.eng.calls ∧
    (endOperation op s).eng.tocnt = s.eng.tocnt ∧ (endOperation op s).eng.bitrate = s.eng.bitrate ∧
    (endOperation op s).eng.req = s.eng.req := by
  have settle (t : State) : (settleResponse t).ctl = t.ctl ∧ (settleResponse t).cfg = t.cfg ∧
      (settleResponse t).turns = t.turns ∧ (settleResponse t).history = t.history ∧
      (settleResponse t).eng.calls = t.eng.calls ∧ (settleResponse t).eng.tocnt = t.eng.tocnt ∧
      (settleResponse t).eng.bitrate = t.eng.bitrate ∧ (settleResponse t).eng.req = t.eng.req := by
    unfold settleResponse; split <;> exact ⟨rfl, rfl, rfl, rfl, rfl, rfl, rfl, rfl⟩
  cases op with
  | configure => exact settle (putResult [codeOf (returnOk s)] (returnOk s))
  | enable => exact settle (putResult [codeOf s] s)
  | disable => exact settle (putResult [codeOf s] s)
  | transfer => exact settle (putResult (transferResult s) s)
  | recover => exact ⟨rfl, rfl, rfl, rfl, rfl, rfl, rfl, rfl⟩
  | waitIdle => exact settle s
  | write => exact settle s
  | waitPoll => exact settle s
  | waitEvent => exact settle s
  | read => exact settle s
  | finish => exact settle s

/-- An idle engine runs the operation and ends it. -/
theorem runOperation_idle {op : EngOp} {f : State → Host.Outcome State Fault Refusal} {s : State}
    (h : s.eng.phase = .idle) : runOperation op f s = andThen (f s) fun u => .next (endOperation op u) := by
  simp [runOperation, whenIdle, h]

/-- A busy engine refuses it. -/
theorem runOperation_busy {op : EngOp} {f : State → Host.Outcome State Fault Refusal} {s : State}
    (h : s.eng.phase ≠ .idle) : runOperation op f s = .refused .busy := by
  simp [runOperation, whenIdle, h]

/-- What an operation that ends in a next state has done. -/
theorem runOperation_next {op : EngOp} {f : State → Host.Outcome State Fault Refusal} {s u : State}
    (h : runOperation op f s = .next u) : s.eng.phase = .idle ∧ ∃ t, f s = .next t ∧ u = endOperation op t := by
  by_cases hp : s.eng.phase = .idle
  · rw [runOperation_idle hp] at h
    obtain ⟨t, ht, hu⟩ := andThen_next h
    exact ⟨hp, t, ht, by cases hu; rfl⟩
  · rw [runOperation_busy hp] at h; cases h

/-- A call that ends in a next state has run the sub-operation with the call open. -/
theorem callOrStop_next {c : CallSite} {f : State → Host.Outcome State Fault Refusal} {s u : State}
    (h : callOrStop c f s = .next u) : ∃ t, f (enter c s) = .next t ∧ u = leave c t := by
  obtain ⟨t, ht, hu⟩ := andThen_next h
  exact ⟨t, ht, by cases hu; rfl⟩

@[simp] theorem unwind_nil (s : State) : unwind [] s = .next s := rfl
@[simp] theorem unwind_cons (c : CallSite) (outer : List CallSite) (s : State) :
    unwind (c :: outer) s = andThen (afterCall c (leave c s)) (unwind outer) := rfl

/-- An idle engine with nothing presented stays idle. -/
theorem resume_idle {s : State} (h : s.eng.phase = .idle) : resume s = .next s := by simp [resume, h]

/-- An operation in progress that ends in a next state ends with `phase = IDLE` (R19, R194). -/
theorem resume_next {s u : State} (h : resume s = .next u) : u.eng.phase = .idle := by
  cases hp : s.eng.phase with
  | idle => rw [resume_idle hp] at h; cases h; exact hp
  | _ l =>
    simp only [resume, hp] at h
    obtain ⟨t, -, h⟩ := andThen_next h
    obtain ⟨v, -, h⟩ := andThen_next h
    cases h; simp

end Sys2Proof.Machine
end

