-- ==== Sys2Proof/Laws/PerInstr.lean ====
section
/-! SUPPORT. The family TableRow: every operation's encoding in the default layout lies in its own row of spec/opcode_table.json, that is, its first word or byte has the row's match under the row's mask. -/

namespace Sys2Proof.Laws.TableRow

/-- The width, the match and the mask of an operation's row, as the table writes them. -/
def row : Instr → Nat × Nat × Nat
  | .rdControl => (16, 0x0000, 0xFF00)
  | .wrControl _ => (16, 0x8000, 0xFF00)
  | .rdStatus1 => (16, 0x0100, 0xFF00)
  | .wrStatus1 _ => (16, 0x8100, 0xFF00)
  | .rdStatus2 => (16, 0x0200, 0xFF00)
  | .wrStatus2 _ => (16, 0x8200, 0xFF00)
  | .rdError => (16, 0x0300, 0xFF00)
  | .wrError _ => (16, 0x8300, 0xFF00)
  | .rdWrData => (16, 0x0400, 0xFF00)
  | .wrWrData _ => (16, 0x8400, 0xFF00)
  | .rdRdData => (16, 0x0500, 0xFF00)
  | .wrRdData _ => (16, 0x8500, 0xFF00)
  | .rdBtLow => (16, 0x0600, 0xFF00)
  | .wrBtLow _ => (16, 0x8600, 0xFF00)
  | .rdBtHigh => (16, 0x0700, 0xFF00)
  | .wrBtHigh _ => (16, 0x8700, 0xFF00)
  | .rdIntEn1 => (16, 0x0800, 0xFF00)
  | .wrIntEn1 _ => (16, 0x8800, 0xFF00)
  | .rdIntEn2 => (16, 0x0900, 0xFF00)
  | .wrIntEn2 _ => (16, 0x8900, 0xFF00)
  | .configure _ => (8, 0x01, 0xFF)
  | .enable => (8, 0x02, 0xFF)
  | .disable => (8, 0x03, 0xFF)
  | .transfer _ => (8, 0x04, 0xFF)
  | .waitIdle => (8, 0x10, 0xFF)
  | .write => (8, 0x11, 0xFF)
  | .waitPoll => (8, 0x12, 0xFF)
  | .waitEvent => (8, 0x13, 0xFF)
  | .read => (8, 0x14, 0xFF)
  | .finish => (8, 0x15, 0xFF)
  | .recoverFifo => (8, 0x16, 0xFF)
  | .recoverFull => (8, 0x17, 0xFF)
  | .irqHandler => (8, 0x18, 0xFF)

/-- The first word or byte of an issue, with its width. -/
def firstUnit : Issue → Nat × Nat
  | .bus w => (16, w.toNat)
  | .cmd (b :: _) => (8, b.toNat)
  | .cmd [] => (0, 0)
  | .micro id => (8, id.toNat)

/-- The encoding lies in the operation's row. -/
def Statement (i : Instr) : Prop :=
  (firstUnit (encode Layout.default i)).1 = (row i).1 ∧ (firstUnit (encode Layout.default i)).2 &&& (row i).2.2 = (row i).2.1

/-- A bus word under the mask 0xFF00 is its direction bit and its register number. -/
theorem encodeBus_masked (w : Bool) (r : Reg) (v : Byte) :
    (encodeBus Layout.default w r v).toNat &&& 0xFF00 = (if w then 0x8000 else 0) + 0x100 * r.number Layout.default := by
  have h : (encodeBus Layout.default w r v).toNat &&& 0xFF00 = (encodeBus Layout.default w r v &&& 0xFF00#16).toNat := by simp
  have k : encodeBus Layout.default w r v &&& 0xFF00#16 = encodeBus Layout.default w r 0 := by
    have e : ∀ x : BitVec 8, (x ++ v) &&& 0xFF00#16 = x ++ 0#8 := fun x => by
      have : (0xFF00#16) = 0xFF#8 ++ 0#8 := by decide
      rw [this, BitVec.and_append]; rw [show (0xFF#8) = BitVec.allOnes 8 from rfl, BitVec.and_allOnes, BitVec.and_zero]
    exact e (BitVec.ofBool w ++ (0 : BitVec 3) ++ BitVec.ofNat 4 (r.number Layout.default))
  rw [h, k]
  cases w <;> cases r <;> decide

theorem rdControl : Statement .rdControl := by constructor <;> decide
theorem wrControl (v : Byte) : Statement (.wrControl v) := ⟨rfl, encodeBus_masked true .control v⟩
theorem rdStatus1 : Statement .rdStatus1 := by constructor <;> decide
theorem wrStatus1 (v : Byte) : Statement (.wrStatus1 v) := ⟨rfl, encodeBus_masked true .status1 v⟩
theorem rdStatus2 : Statement .rdStatus2 := by constructor <;> decide
theorem wrStatus2 (v : Byte) : Statement (.wrStatus2 v) := ⟨rfl, encodeBus_masked true .status2 v⟩
theorem rdError : Statement .rdError := by constructor <;> decide
theorem wrError (v : Byte) : Statement (.wrError v) := ⟨rfl, encodeBus_masked true .error v⟩
theorem rdWrData : Statement .rdWrData := by constructor <;> decide
theorem wrWrData (v : Byte) : Statement (.wrWrData v) := ⟨rfl, encodeBus_masked true .wrData v⟩
theorem rdRdData : Statement .rdRdData := by constructor <;> decide
theorem wrRdData (v : Byte) : Statement (.wrRdData v) := ⟨rfl, encodeBus_masked true .rdData v⟩
theorem rdBtLow : Statement .rdBtLow := by constructor <;> decide
theorem wrBtLow (v : Byte) : Statement (.wrBtLow v) := ⟨rfl, encodeBus_masked true .btLow v⟩
theorem rdBtHigh : Statement .rdBtHigh := by constructor <;> decide
theorem wrBtHigh (v : Byte) : Statement (.wrBtHigh v) := ⟨rfl, encodeBus_masked true .btHigh v⟩
theorem rdIntEn1 : Statement .rdIntEn1 := by constructor <;> decide
theorem wrIntEn1 (v : Byte) : Statement (.wrIntEn1 v) := ⟨rfl, encodeBus_masked true .intEn1 v⟩
theorem rdIntEn2 : Statement .rdIntEn2 := by constructor <;> decide
theorem wrIntEn2 (v : Byte) : Statement (.wrIntEn2 v) := ⟨rfl, encodeBus_masked true .intEn2 v⟩
theorem configure (bitrate : Word) : Statement (.configure bitrate) := ⟨rfl, (by decide : (1 : Nat) &&& 0xFF = 1)⟩
theorem enable : Statement .enable := by constructor <;> decide
theorem disable : Statement .disable := by constructor <;> decide
theorem transfer (req : Request) : Statement (.transfer req) := ⟨rfl, (by decide : (4 : Nat) &&& 0xFF = 4)⟩
theorem waitIdle : Statement .waitIdle := by constructor <;> decide
theorem write : Statement .write := by constructor <;> decide
theorem waitPoll : Statement .waitPoll := by constructor <;> decide
theorem waitEvent : Statement .waitEvent := by constructor <;> decide
theorem read : Statement .read := by constructor <;> decide
theorem finish : Statement .finish := by constructor <;> decide
theorem recoverFifo : Statement .recoverFifo := by constructor <;> decide
theorem recoverFull : Statement .recoverFull := by constructor <;> decide
theorem irqHandler : Statement .irqHandler := by constructor <;> decide

end Sys2Proof.Laws.TableRow
end

