-- ==== Sys2Proof/Tests/Slice0.lean ====
section
/-! SUPPORT. The model's own tests. Expected values come from the encodings of 30_encoding.md and the vectors of 95_test_vectors.md, named at each test. The second half holds one witness for every statement with hypotheses: a concrete state and operands that meet them. -/

namespace Sys2Proof.Tests

open Sys2Proof Sys2Proof.Machine

/-! Helpers. -/

/-- What is seen of the next state, if there is one. -/
def look {α : Type} (f : State → α) : Host.Outcome State Fault Refusal → Option α
  | .next t => some (f t)
  | _ => none

theorem next_of_look {α : Type} {f : State → α} {a : α} {r : Host.Outcome State Fault Refusal}
    (h : look f r = some a) : ∃ t, r = .next t ∧ f t = a := by
  cases r with
  | next t => exact ⟨t, rfl, by simpa [look] using h⟩
  | fault x => simp [look] at h
  | refused x => simp [look] at h

/-- Two attempts in each poll loop. -/
def small : Params := { Params.default with idleAttempts := 2, txPollAttempts := 2, rxPollAttempts := 2 }

/-- Configured with bitrate 1000, powered up, idle wire, empty FIFOs. -/
def up : State :=
  { State.powerOn small with
    ctl := { Controller.reset with pd := false, btLow := 0x18 }
    eng := { Engine.reset with bitrate := 1000 } }

/-- The source's request (S7). -/
def request : Request :=
  { targetAddress := 0x30, commandCode := 0x01, writePayload := [0xAB], expectedLength := 2 }

/-- `up` with the source's request in the latch. -/
def loaded : State := { up with eng := { up.eng with req := request } }

/-- `up` in EVENT mode, the handler enabled by an empty write FIFO. -/
def eventful : State :=
  { up with cfg := { small with mode := .event }, irqMask := false, ctl := { up.ctl with intEn2 := 0x04 } }

/-- A frame on the wire. -/
def framed : State :=
  { up with ctl := { up.ctl with txen := true, frame := { active := true, eofDone := false } }, busIdle := false }

/-! Well-formedness and decoding. -/

theorem test_payload_of_256_is_ill_formed :
    (Instr.transfer { request with writePayload := List.replicate 256 0 }).wellFormed = false := by decide +kernel
theorem test_payload_of_255_is_well_formed :
    (Instr.transfer { request with writePayload := List.replicate 255 0 }).wellFormed = true := by decide +kernel

/-- `0 000 nnnn dddddddd` (R69), n from R61. -/
theorem test_decode_register_reads :
    decodeBus Layout.default 0b0000000000000000 = some .rdControl ∧ decodeBus Layout.default 0b0000000100000000 = some .rdStatus1 ∧
    decodeBus Layout.default 0b0000001000000000 = some .rdStatus2 ∧ decodeBus Layout.default 0b0000001100000000 = some .rdError ∧
    decodeBus Layout.default 0b0000010000000000 = some .rdWrData ∧ decodeBus Layout.default 0b0000010111111111 = some .rdRdData ∧
    decodeBus Layout.default 0b0000011000000000 = some .rdBtLow ∧ decodeBus Layout.default 0b0000011100000000 = some .rdBtHigh ∧
    decodeBus Layout.default 0b0000100000000000 = some .rdIntEn1 ∧ decodeBus Layout.default 0b0000100100000000 = some .rdIntEn2 := by decide

/-- `1 000 nnnn dddddddd` (R69). -/
theorem test_decode_register_writes :
    decodeBus Layout.default 0b1000000010100101 = some (.wrControl 0xA5) ∧ decodeBus Layout.default 0b1000000110100101 = some (.wrStatus1 0xA5) ∧
    decodeBus Layout.default 0b1000001010100101 = some (.wrStatus2 0xA5) ∧ decodeBus Layout.default 0b1000001110100101 = some (.wrError 0xA5) ∧
    decodeBus Layout.default 0b1000010010100101 = some (.wrWrData 0xA5) ∧ decodeBus Layout.default 0b1000010110100101 = some (.wrRdData 0xA5) ∧
    decodeBus Layout.default 0b1000011010100101 = some (.wrBtLow 0xA5) ∧ decodeBus Layout.default 0b1000011110100101 = some (.wrBtHigh 0xA5) ∧
    decodeBus Layout.default 0b1000100010100101 = some (.wrIntEn1 0xA5) ∧
    decodeBus Layout.default 0b1000100110100101 = some (.wrIntEn2 0xA5) := by decide

/-- V28. -/
theorem test_decode_refuses_bus_words :
    decodeBus Layout.default 0x1000 = none ∧ decodeBus Layout.default 0x0A00 = none ∧ decodeBus Layout.default 0x8F00 = none := by decide

/-- V41 and R70. -/
theorem test_decode_commands :
    decodeCommand [0x01, 0xE8, 0x03, 0x00, 0x00] = some (.configure 1000, []) ∧
    decodeCommand [0x02] = some (.enable, []) ∧ decodeCommand [0x03] = some (.disable, []) ∧
    decodeCommand [0x04, 0x30, 0x01, 0x02, 0x00, 0x01, 0xAB, 0x02] = some (.transfer request, [0x02]) := by decide

/-- V102: the expected length is two bytes, least significant first. -/
theorem test_decode_expected_length :
    decodeCommand [0x04, 0x30, 0x01, 0x00, 0x01, 0x00] =
      some (.transfer { request with writePayload := [], expectedLength := 256 }, []) := by decide

/-- V104, and operand bytes missing (log 16). -/
theorem test_decode_refuses_commands :
    decodeCommand [0x00] = none ∧ decodeCommand [0x05] = none ∧ decodeCommand [0x01, 0xE8, 0x03, 0x00] = none ∧
    decodeCommand [0x04, 0x30, 0x01, 0x02, 0x00, 0x02, 0xAB] = none := by decide

/-- R73. -/
theorem test_decode_identifiers :
    decodeMicro 0b00010000 = some .waitIdle ∧ decodeMicro 0b00010001 = some .write ∧
    decodeMicro 0b00010010 = some .waitPoll ∧ decodeMicro 0b00010011 = some .waitEvent ∧
    decodeMicro 0b00010100 = some .read ∧ decodeMicro 0b00010101 = some .finish ∧
    decodeMicro 0b00010110 = some .recoverFifo ∧ decodeMicro 0b00010111 = some .recoverFull ∧
    decodeMicro 0b00011000 = some .irqHandler ∧ decodeMicro 0x0F = none ∧ decodeMicro 0x19 = none := by decide

/-- The encoder's words for the source's scenario (R70, P1). -/
theorem test_encode_scenario :
    encode Layout.default (.configure 1000) = .cmd [0x01, 0xE8, 0x03, 0x00, 0x00] ∧
    encode Layout.default (.transfer request) = .cmd [0x04, 0x30, 0x01, 0x02, 0x00, 0x01, 0xAB] ∧
    encode Layout.default (.wrWrData 0xAB) = .bus 0x84AB := by decide

/-- A row's match value presented after reset is fetched and run. -/
theorem test_table_words :
    decodeTableWord 16 0x8600 = some (.wrBtLow 0) ∧ decodeTableWord 8 0x01 = some (.configure 0) ∧
    decodeTableWord 8 0x18 = some .irqHandler ∧
    look (fun t => t.ctl.pd) (step (State.reset.withFetchWord 8 0x02)) = some false := by decide +kernel

/-! Family REG. -/

/-- V1. -/
theorem test_rdControl_after_reset : look (fun t => t.rdata) (exec .rdControl State.reset) = some 0x01 := by decide
/-- V2. -/
theorem test_wrControl_ignores_reserved :
    look (fun t => controlByte Layout.default t.ctl) (exec (.wrControl 0xF8) up) = some 0x08 := by decide
/-- V3. -/
theorem test_wrControl_frst_forces_txen :
    look (fun t => (controlByte Layout.default t.ctl, t.ctl.wfifo, status2Byte t))
      (exec (.wrControl 0x0C) { up with ctl := { up.ctl with wfifo := [0x30, 1, 2] } }) =
      some (0x04, [], 0x15) := by decide
/-- V8 and V7. -/
theorem test_wrStatus1_bit0_only :
    look (fun t => t.ctl.eof) (exec (.wrStatus1 0x01) { up with ctl := { up.ctl with eof := true } }) = some false ∧
    look (fun t => t.ctl.eof) (exec (.wrStatus1 0xFE) { up with ctl := { up.ctl with eof := true } }) = some true := by
  decide
/-- V11 and V12. -/
theorem test_rdStatus2_idle :
    look (fun t => t.rdata) (exec .rdStatus2 { up with busIdle := false }) = some 0x14 ∧
    look (fun t => t.rdata) (exec .rdStatus2 { State.reset with busIdle := false }) = some 0x15 := by decide
/-- V13 and V14. -/
theorem test_rdStatus2_full :
    look (fun t => t.rdata) (exec .rdStatus2 { up with ctl := { up.ctl with wfifo := List.replicate 32 0 } }) =
      some 0x13 ∧
    look (fun t => t.rdata) (exec .rdStatus2 { up with
      busIdle := false, ctl := { up.ctl with rfifo := List.replicate 32 0 } }) = some 0x0C := by decide +kernel
/-- V17 and V18. -/
theorem test_wrError_clears_only :
    look (fun t => t.ctl.error) (exec (.wrError 0x04) { up with ctl := { up.ctl with error := 0x85 } }) = some 0x81 ∧
    look (fun t => t.ctl.error) (exec (.wrError 0xFF) up) = some 0x00 := by decide
/-- V20, V21 and V22. -/
theorem test_wrWrData_full_discarded_stored :
    look (fun t => t.ctl.wfifo) (exec (.wrWrData 0x77) { up with
      cfg := { small with wfifoDepth := 2 }, ctl := { up.ctl with wfifo := [1, 2] } }) = some [1, 2] ∧
    look (fun t => t.ctl.wfifo) (exec (.wrWrData 0x30) { up with ctl := { up.ctl with frst := true } }) = some [] ∧
    look (fun t => t.ctl.wfifo) (exec (.wrWrData 0x30) State.reset) = some [0x30] := by decide
/-- V23. -/
theorem test_rdRdData_pops_head :
    look (fun t => (t.rdata, t.ctl.rfifo)) (exec .rdRdData { up with ctl := { up.ctl with rfifo := [0x5A, 0x11] } }) =
      some (0x5A, [0x11]) := by decide
/-- V24: the state of the block stays. -/
theorem test_rdRdData_empty :
    look (fun t => (t.ctl.rfifo, t.ctl.error)) (exec .rdRdData up) = some ([], 0) := by decide
/-- V25. -/
theorem test_btHigh_stores_all_bits :
    look (fun t => t.ctl.btHigh) (exec (.wrBtHigh 0xFF) { up with cfg := { small with btHighMask := 0 } }) =
      some 0xFF := by decide
/-- V26 and V27. -/
theorem test_enables_raise_the_line :
    look irqLine (exec (.wrIntEn2 0x04) up) = some true ∧
    look irqLine (exec (.wrIntEn1 0x01) { up with ctl := { up.ctl with eof := true } }) = some true ∧
    look irqLine (exec (.wrIntEn1 0x01) up) = some false := by decide

/-! CONFIGURE. -/

/-- V31, the first byte of BT_LOW and BT_HIGH. -/
theorem test_configure_splits_the_divisor :
    look (fun t => (t.ctl.btLow, t.ctl.btHigh, t.eng.bitrate, t.results)) (exec (.configure 1) State.reset) =
      some (0xC0, 0x5D, 1, [0x00]) := by decide +kernel
/-- V37 and V38: a mask of 0x0F. -/
theorem test_configure_masks_the_high_byte :
    look (fun t => (t.ctl.btLow, t.ctl.btHigh)) (exec (.configure 6) { up with cfg := { small with btHighMask := 0x0F } }) =
      some (0xA0, 0x0F) ∧
    validBitrate { small with btHighMask := 0x0F } 5 = false ∧
    validBitrate { small with maxCoreClock := 100000 } 1 = false ∧ validBitrate small 0xFFFFFFFF = true := by
  decide +kernel

/-! The waits and the handler. -/

/-- V46: idle at the third read, two delays. -/
theorem test_waitIdle_third_read :
    look (fun t => (t.eng.res, t.history.length)) (exec .waitIdle { up with
      cfg := Params.default, busIdle := false, turns := [.eng, .eng, .eng, .envBus true] }) =
      some (.ok, 5) := by decide +kernel
/-- V50. -/
theorem test_waitIdle_one_attempt :
    look (fun t => (t.eng.res, t.history)) (exec .waitIdle { up with
      cfg := { small with idleAttempts := 1 }, busIdle := false }) =
      some (.err .busBusy, [.delayUs 100, .rd .eng .status2 0x14]) := by decide
/-- V70. -/
theorem test_waitPoll_stale_eof :
    look (fun t => (t.eng.res, t.ctl.eof, t.history)) (exec .waitPoll { up with ctl := { up.ctl with eof := true } }) =
      some (.ok, true, [.rd .eng .status1 0x01]) := by decide
/-- V74 and V75a. -/
theorem test_waitEvent_at_once :
    look (fun t => (t.eng.res, t.sig)) (exec .waitEvent { eventful with sig := true }) = some (.ok, false) ∧
    look (fun t => (t.eng.res, t.sig)) (exec .waitEvent eventful) = some (.err .timeout, false) := by decide
/-- V73: the handler runs and posts while the wait is suspended. -/
theorem test_waitEvent_post :
    look (fun t => (t.eng.res, t.sig)) (exec .waitEvent { eventful with
      eng := { eventful.eng with req := request }, turns := List.replicate 5 .isr ++ [.eng] }) =
      some (.ok, false) := by decide +kernel
/-- V77. -/
theorem test_irqHandler_clears_and_posts :
    look (fun t => (t.ctl.eof, t.sig, t.history)) (exec .irqHandler { eventful with
      busIdle := false, ctl := { eventful.ctl with eof := true } }) =
      some (false, true, [.wr .isr .status1 0x01, .rd .isr .status2 0x14, .rd .isr .status1 0x01,
        .rd .isr .error 0x00]) := by decide +kernel

/-! WRITE, READ, FINISH, RECOVER. -/

/-- V60: the guard skips the byte that finds the FIFO full. -/
theorem test_write_guard_skips :
    look (fun t => (t.eng.res, t.ctl.wfifo, t.eng.tocnt)) (exec .write { up with
      cfg := { small with wfifoDepth := 6 }, busIdle := false
      eng := { up.eng with req := { request with commandCode := 0x21, writePayload := [0xA1, 0xA2, 0xA3], expectedLength := 0 } } }) =
      some (.err .busBusy, [0x30, 3, 0, 0x21, 0xA1, 0xA2], 0) := by decide +kernel
/-- V68d: the fourth timeout, a full reset. -/
theorem test_write_fourth_timeout :
    look (fun t => (t.eng.res, t.eng.tocnt, controlByte Layout.default t.ctl, t.ctl.btLow)) (exec .write { loaded with
      eng := { loaded.eng with tocnt := 3 } }) = some (.err .timeout, 4, 0x00, 0x18) := by decide +kernel
/-- V85. -/
theorem test_read_response :
    look (fun t => (t.eng.res, t.eng.rsp, t.eng.rcvd)) (exec .read { loaded with
      ctl := { up.ctl with rfifo := [0x5A, 0x11, 0x22, 0xA5] } }) =
      some (.ok, { bytes := [0x11, 0x22], writeChecksum := 0x5A, readChecksum := 0xA5 }, 2) := by decide +kernel
/-- V89: a ping with an expected length. -/
theorem test_read_ping :
    look (fun t => (t.eng.rsp.bytes, t.ctl.rfifo, t.history.contains (.log (.lengthMismatch 0 3))))
      (exec .read { up with ctl := { up.ctl with rfifo := [0x5A, 1, 2, 3, 0xA5] }
                            eng := { up.eng with req := { request with commandCode := 0, expectedLength := 3 } } }) =
      some ([0x5A], [1, 2, 3, 0xA5], true) := by decide +kernel
/-- V84: CTL sets another bit between the read and the write-back. -/
theorem test_finish_writes_back_what_it_read :
    look (fun t => (t.eng.res, t.ctl.error)) (exec .finish { framed with
      ctl := { framed.ctl with error := 0x04, rfifo := List.replicate 32 0 }, turns := [.eng, .ctlRx 0] }) =
      some (.err .ioError, 0x01) := by decide +kernel
/-- V83b: an unnamed bit alone is an error without a record. -/
theorem test_finish_unnamed_bit :
    look (fun t => (t.eng.res, t.ctl.error, t.ctl.frst, t.history.length)) (exec .finish { up with
      ctl := { up.ctl with error := 0x80 } }) = some (.err .ioError, 0, true, 5) := by decide +kernel
/-- V95. -/
theorem test_recoverFifo :
    look (fun t => (controlByte Layout.default t.ctl, t.ctl.wfifo, t.ctl.btLow)) (exec .recoverFifo { up with
      ctl := { up.ctl with txen := true, wfifo := [0x30, 1, 2, 1, 0xAB] } }) = some (0x04, [], 0x18) := by decide +kernel
/-- V97: ten events. -/
theorem test_recoverFull :
    look (fun t => (controlByte Layout.default t.ctl, t.ctl.btLow, t.ctl.btHigh, t.history.length)) (exec .recoverFull { up with
      ctl := { up.ctl with txen := true } }) = some (0x00, 0x18, 0x00, 10) := by decide +kernel

/-! The public operations. -/

/-- V99 and V100. -/
theorem test_enable :
    look (fun t => (controlByte Layout.default t.ctl, t.results, t.irqMask)) (exec .enable State.reset) = some (0x00, [0x00], true) ∧
    look (fun t => controlByte Layout.default t.ctl) (exec .enable { up with ctl := { up.ctl with pd := true, frst := true } }) =
      some 0x04 := by decide +kernel
/-- V101. -/
theorem test_disable_busy :
    look (fun t => (t.results, t.ctl.pd)) (exec .disable { up with busIdle := false }) = some ([0x01], false) := by
  decide +kernel
/-- P1, the TRANSFER: 25 accesses, one delay, five bytes sent and four received. -/
theorem test_transfer_scenario :
    look (fun t => (t.results, t.history.length, t.ctl.wfifo ++ t.ctl.rfifo, t.eng.rsp.writeChecksum)) (exec (.transfer request) { up with
      turns := List.replicate 12 .eng ++ wellBehavedFrame 5 [0x5A, 0x11, 0x22, 0xA5] }) =
      some ([0x00, 0x02, 0x11, 0x22], 35, [], 0x5A) := by decide +kernel

/-! The controller agent, one move a step. -/

/-- V105 and V106. -/
theorem test_ctlStart_gated :
    look (fun t => (t.ctl.frame.active, t.busIdle)) (step { up with
      ctl := { up.ctl with txen := true }, turns := [.ctlStart] }) = some (true, false) ∧
    look (fun t => t.ctl.frame.active) (step { up with
      ctl := { up.ctl with txen := true, pd := true }, turns := [.ctlStart] }) = some false := by decide
/-- V109. -/
theorem test_ctlEof_keeps_fifo :
    look (fun t => (t.ctl.eof, t.ctl.txen, t.ctl.wfifo)) (step { framed with
      ctl := { framed.ctl with wfifo := [0xAB] }, turns := [.ctlEof] }) = some (true, false, [0xAB]) := by decide
/-- V110. -/
theorem test_ctlRx_overrun :
    look (fun t => (t.ctl.rfifo, t.ctl.error)) (step { framed with
      cfg := { small with rfifoDepth := 1 }, ctl := { framed.ctl with rfifo := [9] }, turns := [.ctlRx 0x11] }) =
      some ([9], 0x01) := by decide

/-! Witnesses: states that meet the hypotheses of the statements. -/

theorem up_consistent : Consistent up := by constructor <;> decide
theorem framed_consistent : Consistent framed := by constructor <;> decide

/-- WriteControlAppliesResets: a value for each of its clauses. -/
theorem witness_WriteControlAppliesResets :
    ((0x08#8).getLsbD 1 = false ∧ (0x08#8).getLsbD 2 = false) ∧ (0x02#8).getLsbD 1 = true ∧
    (0x04#8).getLsbD 2 = true ∧ up.cfg.rstClearsStatus = true ∧
    ({ small with rstClearsStatus := false } : Params).rstClearsStatus = false := by decide

/-- Status2IsComputedAtTheRead: a depth of 1, full and empty; a held reset. -/
def shallow : State := { up with cfg := { small with wfifoDepth := 1 } }
theorem witness_Status2IsComputedAtTheRead :
    (Consistent shallow ∧ shallow.cfg.wfifoDepth = 1) ∧
    (Consistent { shallow with ctl := { up.ctl with wfifo := [7] } }) ∧
    (Consistent { up with ctl := { up.ctl with frst := true } } ∧
      ({ up with ctl := { up.ctl with frst := true } } : State).ctl.frst = true) ∧
    Consistent { up with ctl := { up.ctl with rst := true } } := by
  refine ⟨⟨?_, by decide⟩, ?_, ⟨?_, by decide⟩, ?_⟩ <;> constructor <;> decide

theorem witness_ReadDataPops :
    (∃ s : State, s.ctl.rfifo = 0x5A :: [0x11]) ∧ ∃ s : State, s.ctl.rfifo = [] :=
  ⟨⟨{ up with ctl := { up.ctl with rfifo := [0x5A, 0x11] } }, rfl⟩, up, rfl⟩

theorem witness_RegisterOperationsAlwaysComplete :
    isRegister .rdControl = true ∧ isRegister (.wrIntEn1 5) = true ∧ isRegister (.wrIntEn2 5) = true := by decide

theorem witness_BusyEngineRefusesOperations :
    isEngineOperation (.transfer request) = true ∧ isEngineOperation .recoverFull = true ∧
    ({ up with eng := { up.eng with phase := .at .d3 } } : State).eng.phase ≠ .idle := by decide

/-- ConfigureRefusesInvalidBitrate: the divisor at both ends of its range, and the zero bitrate. -/
theorem witness_ConfigureRefusesInvalidBitrate :
    up.eng.phase = .idle ∧ AdmittedBitrate small 1000 ∧ AdmittedBitrate small 0xFFFFFFFF ∧
    AdmittedBitrate { small with maxCoreClock := 65535 } 1 ∧
    ¬ AdmittedBitrate { small with maxCoreClock := 65536 } 1 ∧ ¬ AdmittedBitrate small 0 := by decide

theorem witness_ConfigureProgramsTheDivisor :
    up.eng.phase = .idle ∧ AdmittedBitrate up.cfg 1000 ∧ up.ctl.rst = false := by decide

theorem witness_ConfigureAccessSequence :
    up.eng.phase = .idle ∧ AdmittedBitrate up.cfg 1000 ∧ Quiet up ∧ Consistent up ∧ up.ctl.rst = false :=
  ⟨rfl, by decide, rfl, up_consistent, rfl⟩

theorem witness_EnablePowersUpAndUnmasks :
    up.eng.phase = .idle ∧ up.cfg.mode = .polled ∧ eventful.eng.phase = .idle ∧ eventful.cfg.mode = .event ∧
    Quiet up ∧ Consistent up ∧ up.ctl.rst = false := ⟨rfl, rfl, rfl, rfl, rfl, up_consistent, rfl⟩

theorem witness_DisableChecksIdleThenPowersDown :
    up.eng.phase = .idle ∧ Quiet up ∧ Consistent up ∧ up.ctl.rst = false ∧ 1 ≤ up.cfg.idleAttempts ∧
    up.busIdle = true ∧ State.reset.ctl.pd = true ∧ up.ctl.pd = false ∧
    ({ up with busIdle := false } : State).busIdle = false ∧
    look (fun t => t.eng.res) (exec .disable up) = some .ok ∧
    look (fun t => t.eng.res) (exec .disable { up with busIdle := false }) = some (.err .busBusy) :=
  ⟨rfl, rfl, up_consistent, rfl, by decide, rfl, rfl, rfl, rfl, by decide +kernel, by decide +kernel⟩

theorem witness_DisableTwiceSucceeds :
    State.reset.eng.phase = .idle ∧ 1 ≤ State.reset.cfg.idleAttempts ∧ State.reset.ctl.pd = true := by decide

theorem witness_WaitIdlePollsExactly :
    up.eng.phase = .idle ∧ 1 ≤ up.cfg.idleAttempts ∧ Quiet up ∧ (up.ctl.pd = true ∨ up.busIdle = true) ∧
    Quiet framed ∧ framed.ctl.pd = false ∧ framed.busIdle = false := by decide

theorem witness_WaitIdleIsBounded :
    up.eng.phase = .idle ∧ 1 ≤ ({ small with idleAttempts := 1 } : Params).idleAttempts := by decide

theorem witness_WaitPollPollsExactly :
    up.eng.phase = .idle ∧ 1 ≤ up.cfg.txPollAttempts ∧ Quiet up ∧ up.ctl.eof = false ∧
    ({ up with ctl := { up.ctl with eof := true } } : State).ctl.eof = true := by decide

theorem witness_CompletionWaitsKeepTheContract :
    (Instr.waitPoll = .waitPoll ∨ Instr.waitPoll = .waitEvent) ∧ eventful.eng.phase = .idle := by decide

/-- WaitEventTakesOrExpires: a state for each of its four clauses. -/
def waiting : State := { eventful with eng := { eventful.eng with req := request } }
def stalePost : State := { waiting with sig := true }
def expiring : State := { waiting with turns := [.expire] }
def posting : State := { waiting with turns := [.isr, .eng], isr := { next := .h4, e := 0, s1 := 0, s2 := 0x14 } }
theorem witness_WaitEventTakesOrExpires :
    (stalePost.eng.phase = .idle ∧ stalePost.sig = true) ∧
    (eventful.eng.phase = .idle ∧ eventful.sig = false ∧
      (txlen eventful.cfg eventful.eng.req).toNat * eventful.cfg.eventUnit = 0) ∧
    (expiring.eng.phase = .idle ∧ expiring.sig = false ∧
      (txlen expiring.cfg expiring.eng.req).toNat * expiring.cfg.eventUnit ≠ 0 ∧
      expiring.turns = .expire :: []) ∧
    posting.eng.phase = .idle ∧ posting.sig = false ∧
    (txlen posting.cfg posting.eng.req).toNat * posting.cfg.eventUnit ≠ 0 ∧
    posting.turns = .isr :: .eng :: [] ∧ posting.isr.next = .h4 ∧
    posting.isr.s2.getLsbD posting.cfg.layout.wfe = true ∧ posting.cfg.mode = .event ∧ irqLine posting = true ∧
    posting.irqMask = false := by decide

/-- The line held up by `EOF` alone. -/
def eofAlone : State := { eventful with ctl := { up.ctl with eof := true, intEn1 := 0x01 } }
theorem witness_HandlerClearsStatusAndPosts :
    (Quiet eventful ∧ eventful.isr.next = .h0 ∧ eventful.cfg.mode = .event ∧ irqLine eventful = true ∧
      eventful.irqMask = false ∧ status2Byte eventful &&& eventful.ctl.intEn2 ≠ 0) ∧
    Quiet eofAlone ∧ eofAlone.isr.next = .h0 ∧ eofAlone.cfg.mode = .event ∧ irqLine eofAlone = true ∧
    eofAlone.irqMask = false ∧ status2Byte eofAlone &&& eofAlone.ctl.intEn2 = 0 := by decide

def lineDown : State := { eventful with ctl := { eventful.ctl with intEn2 := 0 } }
def masked : State := { eventful with irqMask := true }
theorem witness_HandlerIsNotEnteredWhenDisabled :
    up.cfg.mode = .polled ∧ irqLine lineDown = false ∧ masked.irqMask = true ∧
    irqLine { posting with ctl := lineDown.ctl } = false := by decide

/-- A full write FIFO. -/
def full : State := { shallow with ctl := { up.ctl with wfifo := [7] } }
theorem witness_FifoFullWritesNothing :
    full.eng.phase = .idle ∧ full.ctl.wfifo.length = full.cfg.wfifoDepth ∧ WellFormedRequest full.cfg request ∧
    Quiet full := by decide

/-- The wire busy with other traffic. -/
def busy : State := { loaded with busIdle := false }
theorem witness_WriteBusBusyLeavesTheFrame :
    busy.eng.phase = .idle ∧ Quiet busy ∧ Consistent busy ∧ busy.ctl.pd = false ∧ busy.busIdle = false ∧
    busy.ctl.rst = false ∧ busy.ctl.wfifo.length < busy.cfg.wfifoDepth :=
  ⟨rfl, rfl, by constructor <;> decide, rfl, rfl, rfl, by decide⟩

/-- `EOF` left by an earlier transaction. -/
def stale : State := { loaded with ctl := { loaded.ctl with eof := true } }
theorem witness_WriteSucceedsOnStaleEof :
    stale.eng.phase = .idle ∧ Quiet stale ∧ Consistent stale ∧ stale.cfg.mode = .polled ∧
    1 ≤ stale.cfg.idleAttempts ∧ 1 ≤ stale.cfg.txPollAttempts ∧ (stale.ctl.pd = true ∨ stale.busIdle = true) ∧
    stale.ctl.rst = false ∧ stale.ctl.eof = true ∧ stale.ctl.wfifo.length < stale.cfg.wfifoDepth :=
  ⟨rfl, rfl, by constructor <;> decide, rfl, by decide, by decide, .inr rfl, rfl, rfl, by decide⟩

/-- WriteCountsConsecutiveTimeouts and TransferEndsWithOneResult: an admitted bitrate, and none with the count one short of the threshold; a timeout in either mode. -/
theorem witness_WriteCountsConsecutiveTimeouts :
    loaded.eng.phase = .idle ∧ AdmittedBitrate loaded.cfg loaded.eng.bitrate ∧
    ({ Engine.reset with tocnt := 2 }.tocnt + 1).toNat ≤ small.timeoutThreshold ∧
    Quiet loaded ∧ loaded.ctl.wfifo.length < loaded.cfg.wfifoDepth ∧ loaded.busIdle = true ∧
    1 ≤ loaded.cfg.idleAttempts ∧
    (loaded.cfg.mode = .polled ∧ loaded.ctl.eof = false ∧ 1 ≤ loaded.cfg.txPollAttempts) ∧
    eventful.eng.phase = .idle ∧ Quiet eventful ∧ AdmittedBitrate eventful.cfg eventful.eng.bitrate ∧
    eventful.ctl.wfifo.length < eventful.cfg.wfifoDepth ∧ eventful.busIdle = true ∧
    1 ≤ eventful.cfg.idleAttempts ∧ eventful.cfg.mode = .event ∧ eventful.sig = false := by decide

/-- TimeoutEscalatesToFullReset: a timeout with the count at the threshold, and one above it. -/
theorem witness_TimeoutEscalatesToFullReset :
    (∃ t, exec .write { loaded with eng := { loaded.eng with tocnt := 2 } } = .next t ∧ t.eng.res = .err .timeout) ∧
    ((2 : Word) + 1).toNat ≤ small.timeoutThreshold ∧
    (∃ t, exec .write { loaded with eng := { loaded.eng with tocnt := 3 } } = .next t ∧ t.eng.res = .err .timeout) ∧
    small.timeoutThreshold < ((3 : Word) + 1).toNat :=
  ⟨next_of_look (f := fun t => t.eng.res) (by decide +kernel), by decide,
   next_of_look (f := fun t => t.eng.res) (by decide +kernel), by decide⟩

theorem witness_FifoRecoverySetsTheFlag : up.eng.phase = .idle ∧ Quiet up ∧ up.ctl.rst = false := by decide

theorem witness_FullRecoveryReconfigures :
    up.eng.phase = .idle ∧ AdmittedBitrate up.cfg up.eng.bitrate ∧ up.cfg.rstClearsStatus = true ∧ Quiet up := by
  decide

theorem witness_OnlyAFullResetWithoutBitrateFaults :
    State.reset.eng.phase = .idle ∧ State.reset.eng.bitrate = 0 ∧
    exec .recoverFull State.reset = .fault .noBitrate ∧ Inv up ∧
    exec (.configure 0) up = .refused .invalidBitrate ∧
    exec (.transfer { request with expectedLength := 256 }) up = .refused .malformedRequest :=
  ⟨rfl, rfl, rfl, ⟨up_consistent, rfl, rfl⟩, rfl, rfl⟩

/-- FinishNeverEscalates assumes an idle engine alone; both of its outcomes happen. -/
theorem witness_FinishNeverEscalates :
    up.eng.phase = .idle ∧ look (fun t => t.eng.res) (exec .finish up) = some .ok ∧
    look (fun t => t.eng.res) (exec .finish { up with ctl := { up.ctl with error := 1 } }) =
      some (.err .ioError) := by decide +kernel

theorem witness_FinishWithoutErrorSucceeds : up.eng.phase = .idle ∧ Quiet up ∧ up.ctl.error = 0 := by decide

/-- Two named error bits and an unnamed one. -/
def faulty : State := { up with ctl := { up.ctl with error := 0x85, eof := true } }
theorem witness_FinishWritesTheErrorBackVerbatim :
    faulty.eng.phase = .idle ∧ Quiet faulty ∧ faulty.ctl.error ≠ 0 ∧ faulty.ctl.rst = false := by decide

/-- A whole response in the read FIFO, and a byte behind it. -/
def answered : State := { loaded with ctl := { up.ctl with rfifo := [0x5A, 0x11, 0x22, 0xA5, 9] } }
theorem witness_ReadReturnsThePayload :
    answered.eng.phase = .idle ∧ Quiet answered ∧ 1 ≤ answered.cfg.rxPollAttempts ∧
    1 ≤ answered.cfg.idleAttempts ∧ (answered.ctl.pd = true ∨ answered.busIdle = true) ∧
    answered.eng.req.commandCode ≠ answered.cfg.pingCmd ∧
    answered.ctl.rfifo = 0x5A :: ([0x11, 0x22] ++ 0xA5 :: [9]) ∧
    [(0x11 : Byte), 0x22].length = answered.eng.req.expectedLength.toNat := by decide

/-- A ping with an expected length. -/
def pinging : State :=
  { loaded with eng := { loaded.eng with req := { request with commandCode := 0 } }
                ctl := { up.ctl with rfifo := [0x5A, 1] } }
theorem witness_PingResponseIsTheChecksum :
    pinging.eng.phase = .idle ∧ Quiet pinging ∧ 1 ≤ pinging.cfg.rxPollAttempts ∧ 1 ≤ pinging.cfg.idleAttempts ∧
    pinging.busIdle = true ∧ pinging.eng.req.commandCode = pinging.cfg.pingCmd ∧
    pinging.ctl.rfifo = 0x5A :: [1] := by decide

/-- One byte short of the whole response. -/
def cutShort : State := { loaded with ctl := { up.ctl with rfifo := [0x5A, 0x11, 0x22] } }
theorem witness_ReadSlotTimesOut :
    cutShort.eng.phase = .idle ∧ Quiet cutShort ∧ 1 ≤ cutShort.cfg.rxPollAttempts ∧
    cutShort.eng.req.commandCode ≠ cutShort.cfg.pingCmd ∧
    cutShort.ctl.rfifo.length < cutShort.eng.req.expectedLength.toNat + 2 := by decide

/-- ReadUnderAnySchedule assumes an idle engine alone. -/
theorem witness_ReadUnderAnySchedule : loaded.eng.phase = .idle := rfl

/-- TransferRefusesMalformedRequest: an expected length of 256; 255 is well-formed. -/
theorem witness_TransferRefusesMalformedRequest :
    up.eng.phase = .idle ∧ ¬ WellFormedRequest up.cfg { request with expectedLength := 256 } ∧
    WellFormedRequest up.cfg { request with expectedLength := 255 } ∧
    ¬ WellFormedRequest { small with maxPayload := 0 } request := by decide

theorem witness_TransferEndsWithOneResult :
    up.eng.phase = .idle ∧ WellFormedRequest up.cfg request ∧ AdmittedBitrate up.cfg up.eng.bitrate ∧
    (State.reset.eng.tocnt + 1).toNat ≤ State.reset.cfg.timeoutThreshold := by decide

/-- The turns of a well-behaved frame for the source's request. -/
def wellBehavedTurns : List Turn :=
  List.replicate (stepsBeforeSettle small request) .eng ++
    wellBehavedFrame (frameBytes small request).length (0x5A :: ([0x11, 0x22] ++ [0xA5]))

/-- TransferSkipsTheReadPhase: a transfer of each kind that ends in `Ok`. -/
theorem witness_TransferSkipsTheReadPhase :
    (({ request with expectedLength := 0 } : Request).commandCode ≠ stale.cfg.pingCmd ∧
      ∃ t, exec (.transfer { request with expectedLength := 0 }) stale = .next t ∧ t.eng.res = .ok) ∧
    request.expectedLength ≠ 0 ∧
    ∃ t, exec (.transfer request) { up with turns := wellBehavedTurns } = .next t ∧ t.eng.res = .ok :=
  ⟨⟨by decide, next_of_look (f := fun t => t.eng.res) (by decide +kernel)⟩, by decide,
   next_of_look (f := fun t => t.eng.res) (by decide +kernel)⟩

theorem witness_WellBehavedTransferReturnsThePayload :
    let s : State := { up with turns := wellBehavedTurns }
    s.eng.phase = .idle ∧ WellFormedRequest s.cfg request ∧ s.cfg.mode = .polled ∧ 1 ≤ s.cfg.idleAttempts ∧
    1 ≤ s.cfg.txPollAttempts ∧ 1 ≤ s.cfg.rxPollAttempts ∧ s.ctl.pd = false ∧ s.ctl.rst = false ∧
    s.busIdle = true ∧ s.ctl.eof = false ∧ s.ctl.error = 0 ∧ s.ctl.txen = false ∧ s.ctl.frame.active = false ∧
    s.ctl.wfifo = [] ∧ s.ctl.rfifo = [] ∧ headerLen + 1 + request.writePayload.length ≤ s.cfg.wfifoDepth ∧
    request.commandCode ≠ s.cfg.pingCmd ∧ request.expectedLength ≠ 0 ∧
    [(0x11 : Byte), 0x22].length = request.expectedLength.toNat ∧
    [(0x11 : Byte), 0x22].length + fcsLen ≤ s.cfg.rfifoDepth ∧
    s.turns = List.replicate (stepsBeforeSettle s.cfg request) .eng ++
      wellBehavedFrame (frameBytes s.cfg request).length (0x5A :: ([0x11, 0x22] ++ [0xA5])) := by decide

/-- A ping with an expected length of 2, and requests without a response: one that sends a command, one that sends the header alone. -/
def pingRequest : Request := { request with commandCode := 0, writePayload := [] }
def silentRequest : Request := { request with expectedLength := 0 }
def headerRequest : Request := { request with expectedLength := 0, writePayload := [] }

/-- A state in which CTL carries one well-behaved frame during the settle delay. -/
def frameComing (s : State) (r : Request) (p : List Byte) : State :=
  { s with turns := List.replicate (stepsBeforeSettle s.cfg r) .eng ++
      wellBehavedFrame (frameBytes s.cfg r).length (wireStream s.cfg r 0x5A 0xA5 p) }

/-- Either configured state is ready for a frame whose bytes fit. -/
theorem up_clean (r : Request) (p : List Byte) (h : headerLen + 1 + r.writePayload.length ≤ 32) :
    CleanForTransfer (frameComing up r p) r := by constructor <;> first | rfl | exact h
theorem eventful_clean (r : Request) (p : List Byte) (h : headerLen + 1 + r.writePayload.length ≤ 32) :
    CleanForTransfer { frameComing eventful r p with
      turns := (frameComing eventful r p).turns ++ List.replicate 6 .isr } r := by
  constructor <;> first | rfl | exact h

/-- WellBehavedTransferWithoutPayload: a ping with an expected length, and the two kinds without a response. -/
theorem witness_WellBehavedTransferWithoutPayload :
    ∀ x ∈ [(pingRequest, [0x11, 0x22]), (silentRequest, []), (headerRequest, [])],
      let r : Request := x.1
      let p : List Byte := x.2
      let s : State := frameComing up r p
      s.eng.phase = .idle ∧ WellFormedRequest s.cfg r ∧ s.cfg.mode = .polled ∧ 1 ≤ s.cfg.idleAttempts ∧
      1 ≤ s.cfg.txPollAttempts ∧ 1 ≤ s.cfg.rxPollAttempts ∧ CleanForTransfer s r ∧
      (r.commandCode = s.cfg.pingCmd ∨ r.expectedLength = 0) ∧ p.length = r.expectedLength.toNat ∧
      (wireStream s.cfg r 0x5A 0xA5 p).length ≤ s.cfg.rfifoDepth ∧
      s.turns = List.replicate (stepsBeforeSettle s.cfg r) .eng ++
        wellBehavedFrame (frameBytes s.cfg r).length (wireStream s.cfg r 0x5A 0xA5 p) := by
  simp only [List.forall_mem_cons, List.not_mem_nil, false_implies, implies_true, and_true]
  refine ⟨?_, ?_, ?_⟩ <;>
    exact ⟨rfl, by decide, rfl, by decide, by decide, by decide, up_clean _ _ (by decide), by decide, rfl, by decide, rfl⟩

/-- The conclusion, on the ping. -/
theorem test_wellBehaved_ping :
    look (fun t => (t.results, t.ctl.rfifo)) (exec (.transfer pingRequest) (frameComing up pingRequest [0x11, 0x22])) =
      some ([0x00, 0x01, 0x5A], [0x11, 0x22, 0xA5]) := by decide +kernel

/-- WellBehavedTransferInEventMode: the source's request. -/
theorem witness_WellBehavedTransferInEventMode :
    let s : State := { frameComing eventful request [0x11, 0x22] with
      turns := (frameComing eventful request [0x11, 0x22]).turns ++ List.replicate 6 .isr }
    s.eng.phase = .idle ∧ WellFormedRequest s.cfg request ∧ s.cfg.mode = .event ∧
    1 ≤ s.cfg.idleAttempts ∧ 1 ≤ s.cfg.rxPollAttempts ∧ CleanForTransfer s request ∧
    s.irqMask = false ∧ s.isr.next = .h0 ∧ s.ctl.intEn2.getLsbD s.cfg.layout.wfe = true ∧
    [(0x11 : Byte), 0x22].length = request.expectedLength.toNat ∧
    (wireStream s.cfg request 0x5A 0xA5 [0x11, 0x22]).length ≤ s.cfg.rfifoDepth ∧
    s.turns = List.replicate (stepsBeforeSettle s.cfg request) .eng ++
      wellBehavedFrame (frameBytes s.cfg request).length (wireStream s.cfg request 0x5A 0xA5 [0x11, 0x22]) ++
      List.replicate 6 .isr :=
  ⟨rfl, by decide, rfl, by decide, by decide, eventful_clean _ _ (by decide), rfl, rfl, by decide, rfl, by decide, rfl⟩

/-- The conclusion, on the source's request. -/
theorem test_wellBehaved_event :
    look (fun t => (t.results, t.ctl.rfifo, t.sig)) (exec (.transfer request)
      { frameComing eventful request [0x11, 0x22] with
        turns := (frameComing eventful request [0x11, 0x22]).turns ++ List.replicate 6 .isr }) =
      some ([0x00, 0x02, 0x11, 0x22], [], false) := by decide +kernel

theorem witness_WritersOfTheRecord : ∃ t, exec .waitIdle up = .next t ∧ t.eng.res = .ok :=
  next_of_look (f := fun t => t.eng.res) (by decide)

/-- The bit timing written under the frame in progress. -/
def retimed : State := { framed with ctl := { framed.ctl with invalidated := true } }

/-- FrameMovesTakeTheirEffect: a state for each of its clauses. -/
theorem witness_FrameMovesTakeTheirEffect :
    (Running up ∧ ({ up with ctl := { up.ctl with txen := true } } : State).ctl.txen = true ∧
      up.ctl.frame.active = false) ∧
    (Running framed ∧ framed.ctl.frame = { active := true, eofDone := false } ∧
      ({ framed with ctl := { framed.ctl with wfifo := [0x30, 1] } } : State).ctl.wfifo = 0x30 :: [1]) ∧
    ({ framed with ctl := { framed.ctl with frame := { active := true, eofDone := true } } } : State).ctl.frame =
      { active := true, eofDone := true } ∧
    (Running retimed ∧ retimed.ctl.frame.active = true ∧ retimed.ctl.invalidated = true) ∧
    (up.eng.phase = .idle ∧ up.port = none) ∧
    ({ up with eng := { up.eng with phase := .at .d3 } } : State).eng.phase ≠ .idle ∧
    ({ up with port := some (.cmd [0x02]) } : State).port ≠ none := by decide

/-- ReceiveAndErrorMovesTakeTheirEffect: an empty write FIFO, room and no room in the read FIFO, a mask. -/
theorem witness_ReceiveAndErrorMovesTakeTheirEffect :
    Running framed ∧ framed.ctl.frame = { active := true, eofDone := false } ∧ framed.ctl.wfifo = [] ∧
    framed.ctl.rfifo.length < framed.cfg.rfifoDepth ∧
    ({ small with rfifoDepth := 1 } : Params).rfifoDepth ≤ [(9 : Byte)].length ∧
    (0x84#8).getLsbD 0 = false ∧ (0x84#8).getLsbD 1 = false := by decide

/-- HandlerTurnsTakeTheirEffect: the three reasons why the handler may not step, and each of its places when it may. -/
theorem witness_HandlerTurnsTakeTheirEffect :
    up.cfg.mode = .polled ∧ irqLine lineDown = false ∧ masked.irqMask = true ∧
    ∀ k ∈ [HandlerStep.h0, .h1, .h2, .h3, .h4, .h5],
      let s : State := { eventful with isr := { eventful.isr with next := k } }
      s.cfg.mode = .event ∧ irqLine s = true ∧ s.irqMask = false ∧ s.isr.next = k := by decide

/-- A frame whose transmission is over. -/
def ending : State := { framed with ctl := { framed.ctl with frame := { active := true, eofDone := true } } }

/-- FrameMovesAreGated: a state for each of the cases of its hypothesis. -/
theorem witness_FrameMovesAreGated :
    (isFrameMove (.ctlRx 0) = true ∧ State.reset.ctl.pd = true ∧
      ({ up with ctl := { up.ctl with rst := true } } : State).ctl.rst = true ∧
      ({ up with ctl := { up.ctl with frst := true } } : State).ctl.frst = true ∧
      up.ctl.frame.active = false ∧ Turn.ctlRx 0 ≠ .ctlStart) ∧
    (up.ctl.txen = false ∧ framed.ctl.frame.active = true) ∧ ending.ctl.frame.eofDone = true ∧
    (framed.ctl.wfifo = [] ∧ ({ framed with ctl := { framed.ctl with wfifo := [1] } } : State).ctl.wfifo ≠ []) ∧
    framed.ctl.frame.eofDone = false ∧
    ((0x01#8).getLsbD framed.cfg.layout.rbor = true ∧ (0x02#8).getLsbD framed.cfg.layout.wbur = true) ∧
    up.ctl.frame.active = false ∧ framed.ctl.invalidated = false := by decide

/-- 60_exceptions.md R249: a powered-down controller keeps `ERROR`, under an invalidated frame too; powered up, ENV may set it (41_config.md R113). -/
theorem test_powered_down_keeps_error :
    look (fun t => t.ctl.error) (step { retimed with
      ctl := { retimed.ctl with pd := true }, turns := [.envErr 0x84] }) = some 0 ∧
    look (fun t => t.ctl.error) (step { retimed with turns := [.envErr 0x84] }) = some 0x84 := by decide

theorem witness_WireSideNeverDoes :
    isFrameMove .ctlEof = true ∧
    ∃ t, step { framed with turns := [.ctlEof] } = .next t ∧ t.ctl.eof = true :=
  ⟨rfl, next_of_look (f := fun t => t.ctl.eof) (by decide)⟩

theorem witness_StepKeepsTheInvariant :
    Inv { up with port := some (.cmd [0x02]) } ∧
    ∃ t, step { up with port := some (.cmd [0x02]) } = .next t ∧ t.results = [0x00] :=
  ⟨⟨by constructor <;> decide, rfl, rfl⟩, next_of_look (f := fun t => t.results) (by decide +kernel)⟩

theorem witness_DecodeInvertsEncode :
    (Instr.transfer request).wellFormed = true ∧
    encode Layout.default (.transfer request) = .cmd [0x04, 0x30, 0x01, 0x02, 0x00, 0x01, 0xAB] := by decide

theorem witness_ReservedWordsAreRefused :
    (0x05#8 = 0x00 ∨ 0x05 ≤ (0x05#8).toNat) ∧ ([0xE8, 0x03, 0x00] : List Byte).length < 4 ∧
    ([0x30, 0x01, 0x02, 0x00] : List Byte).length < 5 ∧ ([0xAB] : List Byte).length < (0x02#8).toNat ∧ decodeIssue Layout.default (.bus 0x1000) = none ∧
    Quiet { up with port := some (.bus 0x1000) } := by decide

theorem witness_StepRunsTheDecodedOperation :
    decodeIssue Layout.default (.cmd [0x02, 0x03]) = some .enable ∧
    Quiet { up with port := some (.cmd [0x02, 0x03]) } ∧
    ({ up with turns := [.eng] } : State).turns = .eng :: [] := by decide

/-- OperationInProgressGoesOn: nothing presented; no call under way, or WAIT_IDLE inside WRITE inside TRANSFER with no attempt left; admitted bitrates; a well-formed request; no bitrate. -/
theorem witness_OperationInProgressGoesOn :
    let s : State := { loaded with eng := { loaded.eng with newBitrate := 500 } }
    let inner : State := { s with eng := { s.eng with calls := [.w5, .t2], n := 0 } }
    (s.port = none ∧ s.eng.calls = [] ∧ AdmittedBitrate s.cfg s.eng.bitrate ∧ AdmittedBitrate s.cfg s.eng.newBitrate ∧
      WellFormedRequest s.cfg s.eng.req) ∧
    (inner.port = none ∧ inner.eng.calls = [.w5, .t2] ∧ inner.eng.n = 0) ∧
    (State.reset.port = none ∧ State.reset.eng.bitrate = 0) ∧
    s.eng.i ≤ s.eng.req.expectedLength.toNat + 1 ∧
    ({ s with eng := { s.eng with i := 4 } } : State).eng.req.expectedLength.toNat + 1 < 4 := by decide

/-! Resumption, the port, the layout. -/

/-- R19 and 60_exceptions.md R236: WAIT_IDLE at its last test, inside WRITE inside TRANSFER, ends all three. -/
theorem test_resume_ends_the_callers :
    look (fun t => (t.results, t.eng.phase, t.eng.calls)) (step { loaded with
      eng := { loaded.eng with phase := .at .i5, calls := [.w5, .t2], n := 0 } }) =
      some ([0x01], .idle, []) := by decide +kernel
/-- READ at D5 of its last slot, inside TRANSFER: the read-side checksum is popped, FINISH runs (45_reader.md R157). -/
theorem test_resume_read_inside_transfer :
    look (fun t => (t.results, t.eng.rsp.readChecksum, t.eng.phase)) (step { loaded with
      ctl := { up.ctl with rfifo := [0xA5] }
      eng := { loaded.eng with
        phase := .at .d5, calls := [.t3], i := 3, rcvd := 2
        rsp := { bytes := [0x11, 0x22], writeChecksum := 0x5A, readChecksum := 0 } } }) =
      some ([0x00, 0x02, 0x11, 0x22], 0xA5, .idle) := by decide +kernel
/-- V88: the index of the last slot is 256; READ does not count on. -/
theorem test_read_last_slot :
    look (fun t => (t.eng.res, t.eng.i, t.eng.rsp.bytes.length, t.ctl.rfifo)) (exec .read { loaded with
      cfg := { small with rfifoDepth := 257 }, ctl := { up.ctl with rfifo := List.replicate 257 0x5A }
      eng := { loaded.eng with req := { request with expectedLength := 255 } } }) =
      some (.ok, 256, 255, []) := by decide +kernel
/-- R155: READ at D6 of its last slot goes on to D7 and pops nothing more. -/
theorem test_resume_after_last_slot :
    look (fun t => (t.eng.res, t.eng.i, t.ctl.rfifo)) (step { loaded with
      ctl := { up.ctl with rfifo := [0x77] }, eng := { loaded.eng with phase := .at .d6, i := 3, rcvd := 2 } }) =
      some (.ok, 3, [0x77]) := by decide +kernel
/-- 47_public_ops.md R194: bytes behind a command are no second operation. -/
theorem test_surplus_bytes_are_dropped :
    look (fun t => (t.results, t.port, t.ctl.pd)) (step { State.reset with port := some (.cmd [0x02, 0x03]) }) =
      some ([0x00], none, false) := by decide +kernel
/-- 70_reset_and_hazards.md R262: the platform presents a register word. -/
theorem test_platform_presents :
    look (fun t => t.port) (step { up with turns := [.platform 0x8904] }) = some (some (.bus 0x8904)) := by decide
/-- 47_public_ops.md R194: of two commands presented before the engine's turn the second is refused. -/
theorem test_host_presents_twice :
    look (fun t => t.port) (step { up with port := some (.cmd [0x02]), turns := [.host [0x03]] }) =
      some (some (.cmd [0x02])) := by decide
/-- 10_state.md R16: a DISABLE that fails leaves `RSP` unspecified, one more draw. -/
theorem test_disable_error_loses_the_response :
    look (fun t => t.draws) (exec .disable { up with busIdle := false }) = some 1 := by decide +kernel
/-- R29 (log 9): the line was held up by `EOF` alone; after the clear the handler may not step. -/
theorem test_handler_waits_for_the_line :
    look (fun t => (t.isr.next, t.ctl.eof, t.sig)) (exec .irqHandler eofAlone) = some (.h4, false, false) := by
  decide +kernel

/-- A layout that is not the default: the registers and the fields in the opposite order. -/
def mirrored : Layout :=
  { control := 9, status1 := 8, status2 := 7, error := 6, wrData := 5, rdData := 4,
    btLow := 3, btHigh := 2, intEn1 := 1, intEn2 := 0,
    pd := 7, rst := 6, frst := 5, txen := 4, eof := 7,
    idle := 7, wff := 6, wfe := 5, rff := 4, rfe := 3, rbor := 7, wbur := 6, berr := 5,
    numbersDistinct := by decide, controlDistinct := by decide, status2Distinct := by decide,
    errorDistinct := by decide }
/-- R6 and D1: the layout is a parameter; V1 and V12 at its positions. -/
theorem test_mirrored_layout :
    decodeBus mirrored 0x8918 = some (.wrControl 0x18) ∧ decodeBus mirrored 0x0400 = some .rdRdData ∧
    look (fun t => t.rdata) (exec .rdControl (State.powerOn { small with layout := mirrored })) = some 0x80 ∧
    look (fun t => t.rdata) (exec .rdStatus2 (State.powerOn { small with layout := mirrored })) = some 0xA8 := by
  decide
/-- 30_encoding.md R62, the masks of the default layout. -/
theorem test_default_masks :
    [Layout.default.pd, Layout.default.rst, Layout.default.frst, Layout.default.txen].map bit = [0x01, 0x02, 0x04, 0x08] ∧
    bit Layout.default.eof = 0x01 ∧
    [Layout.default.idle, Layout.default.wff, Layout.default.wfe, Layout.default.rff, Layout.default.rfe].map bit =
      [0x01, 0x02, 0x04, 0x08, 0x10] ∧
    [Layout.default.rbor, Layout.default.wbur, Layout.default.berr].map bit = [0x01, 0x02, 0x04] := by decide
theorem test_default_parameters_ok : Params.default.ok = true ∧ { Params.default with eventUnit := 0 }.ok = true := by
  decide

end Sys2Proof.Tests
end

section
/-! PROOF. Family REG (40_register_ops.md): the decoder and the dispatch treat the access of every register alike, and `STATUS1` and `ERROR` are write-one-to-clear. -/

namespace Sys2Proof

/-! The fields of a bus word (30_encoding.md R69). -/

@[simp] theorem busIsWrite_encodeBus (l : Layout) (w : Bool) (r : Reg) (v : Byte) :
    busIsWrite (encodeBus l w r v) = w := by
  change (BitVec.ofBool w ++ (0 : BitVec 3) ++ BitVec.ofNat 4 (r.number l) ++ v).getLsbD 15 = w
  simp only [BitVec.getLsbD_append]
  cases w <;> rfl

@[simp] theorem busZeroField_encodeBus (l : Layout) (w : Bool) (r : Reg) (v : Byte) :
    busZeroField (encodeBus l w r v) = 0 :=
  calc (encodeBus l w r v).extractLsb' 12 3
    _ = (BitVec.ofBool w ++ (0 : BitVec 3) ++ BitVec.ofNat 4 (r.number l)).extractLsb' 4 3 :=
      BitVec.extractLsb'_append_eq_of_le (by decide)
    _ = (BitVec.ofBool w ++ (0 : BitVec 3)).extractLsb' 0 3 := BitVec.extractLsb'_append_eq_of_le (by decide)
    _ = 0 := BitVec.extractLsb'_append_eq_right

/-- The four bits of the register number hold it, for it is at most 9. -/
@[simp] theorem busNumber_encodeBus (l : Layout) (w : Bool) (r : Reg) (v : Byte) :
    busNumber (encodeBus l w r v) = r.number l := by
  have fits : r.number l < 2 ^ 4 := Nat.lt_of_le_of_lt (r.number_le l) (by decide)
  have field : (encodeBus l w r v).extractLsb' 8 4 = BitVec.ofNat 4 (r.number l) :=
    (BitVec.extractLsb'_append_eq_of_le (by decide)).trans BitVec.extractLsb'_append_eq_right
  rw [busNumber, field, BitVec.toNat_ofNat, Nat.mod_eq_of_lt fits]

@[simp] theorem busData_encodeBus (l : Layout) (w : Bool) (r : Reg) (v : Byte) :
    busData (encodeBus l w r v) = v :=
  BitVec.extractLsb'_append_eq_right

/-- The decoder reads back the direction, the register and the data of an encoded bus word, in any layout. -/
theorem decodeBus_encodeBus (l : Layout) (w : Bool) (r : Reg) (v : Byte) :
    decodeBus l (encodeBus l w r v) = some (if w then r.writeInstr v else r.readInstr) := by
  simp [decodeBus]

namespace Machine

/-- Every register's read operation is one atomic read of that register by the host (R80 to R98). -/
theorem exec_readInstr (r : Reg) (s : State) : exec r.readInstr s = .next (regRead .host r s) := by
  cases r <;> rfl

/-- Every register's write operation is one atomic write of that register by the host (R81 to R99). -/
theorem exec_writeInstr (r : Reg) (v : Byte) (s : State) :
    exec (r.writeInstr v) s = .next (regWrite .host r v s) := by
  cases r <;> rfl

/-- A read without a side effect presents its value, is recorded, and changes nothing else. -/
theorem regRead_pure {who : Agent} {r : Reg} {s : State} {v : Byte} (h : readReg r s = (v, s)) :
    regRead who r s = { s with rdata := v, history := .rd who r v :: s.history } := by
  rw [regRead, h]; rfl

/-- `STATUS1` reads as the mask of `EOF` or as 0, and the read clears nothing (R82). -/
theorem readReg_status1 (s : State) :
    readReg .status1 s = (if s.ctl.eof then bit s.cfg.layout.eof else 0, s) := rfl

/-- `ERROR` reads verbatim, and the read clears nothing (R86). -/
theorem readReg_error (s : State) : readReg .error s = (s.ctl.error, s) := rfl

/-- A write of `STATUS1` keeps `EOF` exactly where its bit is written as 0 (R83). -/
theorem regWrite_status1 (who : Agent) (v : Byte) (s : State) :
    regWrite who .status1 v s = { s with
      ctl := { s.ctl with eof := s.ctl.eof && !v.getLsbD s.cfg.layout.eof }
      history := .wr who .status1 v :: s.history } := rfl

/-- A write of `ERROR` keeps exactly the bits written as 0 (R87). -/
theorem regWrite_error (who : Agent) (v : Byte) (s : State) :
    regWrite who .error v s = { s with
      ctl := { s.ctl with error := s.ctl.error &&& ~~~v }
      history := .wr who .error v :: s.history } := rfl

/-- Settles O3: the two words are the encoder's words of the default layout (by computation), the read is a pure read, and the write keeps `EOF` only under a written 0. -/
theorem status1IsWriteOneToClear : Obligations.Status1IsWriteOneToClear := by
  refine ⟨decodeBus_encodeBus Layout.default false .status1, decodeBus_encodeBus Layout.default true .status1,
    fun s => ?_, fun v s => ?_⟩
  · exact (exec_readInstr .status1 s).trans (congrArg _ (regRead_pure (readReg_status1 s)))
  · exact (exec_writeInstr .status1 v s).trans (congrArg _ (regWrite_status1 .host v s))

/-- Settles O5: the two words are the encoder's words of the default layout (by computation), the read is a pure read, and the write masks `ERROR` with the complement of the value. -/
theorem errorIsWriteOneToClear : Obligations.ErrorIsWriteOneToClear := by
  refine ⟨decodeBus_encodeBus Layout.default false .error, decodeBus_encodeBus Layout.default true .error,
    fun s => ?_, fun v s => ?_⟩
  · exact (exec_readInstr .error s).trans (congrArg _ (regRead_pure (readReg_error s)))
  · exact (exec_writeInstr .error v s).trans (congrArg _ (regWrite_error .host v s))

end Machine

end Sys2Proof
end

section
/-! PROOF. Family 45_reader.md: TRANSFER pops the read FIFO exactly when its read phase runs (R161). Two relations carry it: `PopFree` (no pop; parameters, request and response untouched), which everything but READ satisfies, and the growth of the history, which READ satisfies too. -/

namespace Sys2Proof.Machine

theorem returnedOk_iff (s : State) : returnedOk s = true ↔ s.eng.res = .ok := decide_eq_true_iff

/-- How often the engine has popped the read FIFO. -/
def enginePops (s : State) : Nat := s.history.countP isEnginePop

/-- The pops among the events added to a history are the difference of the counts. -/
theorem enginePops_of_append {s t : State} {h : List Event} (hh : t.history = h ++ s.history) :
    enginePops t = h.countP isEnginePop + enginePops s := by
  rw [enginePops, hh, List.countP_append, enginePops]

/-- A longer history counts at least as many pops. -/
theorem enginePops_mono {s t : State} (h : s.history <:+ t.history) : enginePops s ≤ enginePops t :=
  h.sublist.countP_le

/-- From `a` to `b` events were added, none of them a pop by the engine, and the parameters, the request and the response stayed; unlike `KeepsRecord` it holds of a whole WRITE, which writes `tocnt`. -/
structure PopFree (a b : State) : Prop where
  cfg : b.cfg = a.cfg
  req : b.eng.req = a.eng.req
  rsp : b.eng.rsp = a.eng.rsp
  grows : a.history <:+ b.history
  pops : enginePops b = enginePops a

/-- The four fields of which `PopFree` speaks. -/
def traced (s : State) : Params × Request × Response × List Event := (s.cfg, s.eng.req, s.eng.rsp, s.history)

/-- A change of other fields than these four. -/
theorem PopFree.edit {a b : State} (h : traced b = traced a) : PopFree a b := by
  obtain ⟨cfg, req, rsp, history⟩ : b.cfg = a.cfg ∧ b.eng.req = a.eng.req ∧ b.eng.rsp = a.eng.rsp ∧
      b.history = a.history := by simpa [traced] using h
  exact ⟨cfg, req, rsp, history ▸ List.suffix_rfl, congrArg (List.countP isEnginePop) history⟩

theorem PopFree.trans {a b c : State} (h : PopFree a b) (k : PopFree b c) : PopFree a c :=
  ⟨k.cfg.trans h.cfg, k.req.trans h.req, k.rsp.trans h.rsp, h.grows.trans k.grows, k.pops.trans h.pops⟩

/-- One event that is no pop by the engine. -/
theorem PopFree.event {a b : State} (x : Event) (hx : isEnginePop x = false) (history : b.history = x :: a.history)
    (cfg : b.cfg = a.cfg) (eng : b.eng = a.eng) : PopFree a b :=
  ⟨cfg, congrArg _ eng, congrArg _ eng, history ▸ List.suffix_cons _ _, by simp [enginePops, history, hx]⟩

theorem record_popFree {x : Event} (hx : isEnginePop x = false) (s : State) : PopFree s (record x s) :=
  .event x hx rfl rfl rfl

/-- A read of any register but `RD_DATA`, or by another agent, is no pop by the engine. -/
theorem regRead_popFree {who : Agent} {r : Reg} (h : ∀ v, isEnginePop (.rd who r v) = false) (s : State) :
    PopFree s (regRead who r s) :=
  .event _ (h _) (regRead_history who r s) (regRead_cfg who r s) (regRead_eng who r s)

theorem regWrite_popFree (who : Agent) (r : Reg) (v : Byte) (s : State) : PopFree s (regWrite who r v s) :=
  .event _ rfl (regWrite_history who r v s) (regWrite_cfg who r v s) (regWrite_eng who r v s)

/-! The other agents. -/

theorem handlerStep_popFree (s : State) : PopFree s (handlerStep s) := by
  unfold handlerStep; split
  · exact (regRead_popFree (fun _ => rfl) s).trans (.edit rfl)
  · exact (regRead_popFree (fun _ => rfl) s).trans (.edit rfl)
  · exact (regRead_popFree (fun _ => rfl) s).trans (.edit rfl)
  · exact (regWrite_popFree _ _ _ s).trans (.edit rfl)
  · unfold handlerH4; split <;> exact .edit rfl
  · unfold handlerH5; split <;> exact .edit rfl

/-- The events of the other agents are none of the engine's. -/
theorem agentStep_popFree (t : Turn) (s : State) : PopFree s (agentStep t s) := by
  cases t <;> simp only [agentStep]
  case eng => exact .edit rfl
  case expire => exact .edit rfl
  case ctlStart => unfold ctlStart; split <;> exact .edit rfl
  case ctlTx =>
    unfold ctlTx; split
    · split
      · exact .event (.wireTx _) rfl rfl rfl rfl
      · exact .edit rfl
    · exact .edit rfl
  case ctlUnderrun => unfold ctlUnderrun; split <;> exact .edit rfl
  case ctlEof => unfold ctlEof; split <;> exact .edit rfl
  case ctlEnd => unfold ctlEnd; split <;> exact .edit rfl
  case ctlRx b =>
    unfold ctlRx; split
    · refine PopFree.trans ?_ (record_popFree rfl _)
      split <;> exact .edit rfl
    · exact .edit rfl
  case ctlErr m => unfold ctlErr; split <;> exact .edit rfl
  case envBus v => unfold envBus; split <;> exact .edit rfl
  case envErr m => unfold envErr; split <;> exact .edit rfl
  case isr =>
    unfold isrStep; split
    · exact handlerStep_popFree s
    · exact .edit rfl
  case host bytes => unfold offer; split <;> exact .edit rfl
  case platform w => unfold offer; split <;> exact .edit rfl

theorem othersFrom_popFree (l : List Turn) (s : State) : PopFree s (othersFrom l s) := by
  induction l generalizing s with
  | nil => exact .edit rfl
  | cons t l ih =>
    by_cases h : t = .eng
    · subst h; exact .edit rfl
    · rw [othersFrom_other h]; exact (agentStep_popFree t s).trans (ih _)

theorem others_popFree (s : State) : PopFree s (others s) := othersFrom_popFree s.turns s

/-! The engine's own steps. -/

theorem goto_popFree (l : Label) (s : State) : PopFree s (goto l s) := .edit rfl
theorem countAttempt_popFree (s : State) : PopFree s (countAttempt s) := .edit rfl
theorem setAttempts_popFree (n : Nat) (s : State) : PopFree s (setAttempts n s) := .edit rfl
theorem returnOk_popFree (s : State) : PopFree s (returnOk s) := .edit rfl
theorem raiseErr_popFree (k : ErrKind) (s : State) : PopFree s (raiseErr k s) := .edit rfl
theorem enter_popFree (c : CallSite) (s : State) : PopFree s (enter c s) := .edit rfl
theorem leave_popFree (c : CallSite) (s : State) : PopFree s (leave c s) := .edit rfl
theorem setTurns_popFree (l : List Turn) (s : State) : PopFree s { s with turns := l } := .edit rfl
theorem latchS_popFree (s : State) : PopFree s (latchS s) := .edit rfl
theorem latchC_popFree (s : State) : PopFree s (latchC s) := .edit rfl
theorem latchE_popFree (s : State) : PopFree s (latchE s) := .edit rfl
theorem putTimeouts_popFree (n : Word) (s : State) : PopFree s (putTimeouts n s) := .edit rfl

theorem loadStatus_popFree {r : Reg} (h : ∀ v, isEnginePop (.rd .eng r v) = false) (s : State) :
    PopFree s (loadStatus r s) :=
  ((regRead_popFree h s).trans (latchS_popFree _)).trans (others_popFree _)

theorem loadControl_popFree (s : State) : PopFree s (loadControl s) :=
  ((regRead_popFree (fun _ => rfl) s).trans (latchC_popFree _)).trans (others_popFree _)

theorem loadError_popFree (s : State) : PopFree s (loadError s) :=
  ((regRead_popFree (fun _ => rfl) s).trans (latchE_popFree _)).trans (others_popFree _)

theorem store_popFree (r : Reg) (v : Byte) (s : State) : PopFree s (store r v s) :=
  (regWrite_popFree _ r v s).trans (others_popFree _)

theorem delayUs_popFree (n : Nat) (s : State) : PopFree s (delayUs n s) :=
  (record_popFree rfl s).trans (others_popFree _)

theorem sleepMs_popFree (n : Nat) (s : State) : PopFree s (sleepMs n s) :=
  (record_popFree rfl s).trans (others_popFree _)

theorem setControl_popFree (field : Layout → Fin 8) (s : State) : PopFree s (setControl field s) :=
  (loadControl_popFree s).trans (store_popFree _ _ _)

theorem clearControl_popFree (field : Layout → Fin 8) (s : State) : PopFree s (clearControl field s) :=
  (loadControl_popFree s).trans (store_popFree _ _ _)

theorem setTimeouts_popFree (n : Word) (s : State) : PopFree s (setTimeouts n s) :=
  (putTimeouts_popFree n s).trans (others_popFree _)

/-- A call pops nothing when the sub-operation does not. -/
theorem call_popFree (c : CallSite) {f : State → State} (hf : ∀ t, PopFree t (f t)) (s : State) :
    PopFree s (call c f s) :=
  ((enter_popFree c s).trans (hf _)).trans (leave_popFree c _)

/-- The same for a sub-operation that may fault. -/
theorem callOrStop_popFree {c : CallSite} {f : State → Host.Outcome State Fault Refusal} {s t : State}
    (hf : ∀ a b, f a = .next b → PopFree a b) (h : callOrStop c f s = .next t) : PopFree s t := by
  obtain ⟨u, hu, rfl⟩ := callOrStop_next h
  exact ((enter_popFree c s).trans (hf _ _ hu)).trans (leave_popFree c u)

/-! WAIT_IDLE and the completion waits. -/

theorem idleCount_popFree (s : State) : PopFree s (idleCount s) := .edit rfl

theorem idleDecide_popFree {again : State → State} (h : ∀ a, PopFree a (again a)) (s : State) :
    PopFree s (idleDecide again s) := by
  have delay : ∀ a, PopFree a (idleDelay a) := fun _ =>
    ((goto_popFree _ _).trans (delayUs_popFree _ _)).trans (idleCount_popFree _)
  unfold idleDecide; split
  · exact .edit rfl
  · exact ((goto_popFree _ s).trans (delay _)).trans (h _)

theorem idleLoop_popFree (n : Nat) (s : State) : PopFree s (idleLoop n s) := by
  induction n generalizing s with
  | zero => exact .edit rfl
  | succ n ih =>
    have poll : PopFree s (idlePoll s) := (goto_popFree _ _).trans (loadStatus_popFree (fun _ => rfl) _)
    exact poll.trans (idleDecide_popFree ih _)

theorem waitIdle_popFree (s : State) : PopFree s (waitIdle s) :=
  ((goto_popFree _ s).trans (setAttempts_popFree _ _)).trans (idleLoop_popFree _ _)

theorem txCount_popFree (s : State) : PopFree s (txCount s) := .edit rfl

theorem txDecide_popFree {again : State → State} (h : ∀ a, PopFree a (again a)) (s : State) :
    PopFree s (txDecide again s) := by
  have delay : ∀ a, PopFree a (txDelay a) := fun _ =>
    ((goto_popFree _ _).trans (delayUs_popFree _ _)).trans (txCount_popFree _)
  unfold txDecide; split
  · exact .edit rfl
  · exact ((goto_popFree _ s).trans (delay _)).trans (h _)

theorem pollLoop_popFree (n : Nat) (s : State) : PopFree s (pollLoop n s) := by
  induction n generalizing s with
  | zero => exact .edit rfl
  | succ n ih =>
    have poll : PopFree s (txPoll s) := (goto_popFree _ _).trans (loadStatus_popFree (fun _ => rfl) _)
    exact poll.trans (txDecide_popFree ih _)

theorem waitPoll_popFree (s : State) : PopFree s (waitPoll s) :=
  ((goto_popFree _ s).trans (setAttempts_popFree _ _)).trans (pollLoop_popFree _ _)

theorem decideEvent_popFree (s : State) : PopFree s (decideEvent s) := by
  unfold decideEvent; split <;> exact .edit rfl

theorem eventLoop_popFree (l : List Turn) (s : State) : PopFree s (eventLoop l s) := by
  induction l generalizing s with
  | nil => exact (setTurns_popFree [] s).trans (decideEvent_popFree _)
  | cons t l ih =>
    cases t with
    | eng =>
      unfold eventLoop; split
      · exact .edit rfl
      · exact ih s
    | expire =>
      unfold eventLoop; split
      · exact ih s
      · exact .edit rfl
    | _ => exact (agentStep_popFree _ s).trans (ih _)

theorem waitComplete_popFree (len : Byte) (s : State) : PopFree s (waitComplete len s) := by
  unfold waitComplete waitEvent; split
  · exact waitPoll_popFree s
  · split
    · exact (goto_popFree _ _).trans (decideEvent_popFree _)
    · exact (goto_popFree _ _).trans (eventLoop_popFree _ _)

/-! RECOVER and FINISH. -/

theorem recoverFifo_popFree (s : State) : PopFree s (recoverFifo s) :=
  (goto_popFree _ _).trans (setControl_popFree _ _)

theorem configure_popFree {br : Word} {s t : State} (h : configure br s = .next t) : PopFree s t := by
  unfold configure at h; split at h <;> cases h
  have operand : PopFree s (latchOperand br s) := .edit rfl
  have off : ∀ a, PopFree a (powerOff a) := fun _ => (goto_popFree _ _).trans (setControl_popFree _ _)
  have low : ∀ a, PopFree a (storeDivLow a) := fun _ => (goto_popFree _ _).trans (store_popFree _ _ _)
  have high : ∀ a, PopFree a (storeDivHigh a) := fun _ => (goto_popFree _ _).trans (store_popFree _ _ _)
  have on : ∀ a, PopFree a (powerOn a) := fun _ => (goto_popFree _ _).trans (clearControl_popFree _ _)
  have div : ∀ a, PopFree a (latchDiv a) := fun _ => .edit rfl
  have last : ∀ a, PopFree a (finishConfigure a) := fun _ => .edit rfl
  exact (((((operand.trans (off _)).trans (div _)).trans (low _)).trans (high _)).trans (on _)).trans (last _)

theorem reconfigure_popFree {s t : State} (h : reconfigure s = .next t) : PopFree s t := by
  unfold reconfigure at h; split at h
  · cases h
  · exact (goto_popFree _ _).trans (callOrStop_popFree (fun _ _ => configure_popFree) h)

theorem holdReset_popFree (inIsr : Bool) (s : State) : PopFree s (holdReset inIsr s) := by
  unfold holdReset; split
  · exact (goto_popFree _ _).trans (delayUs_popFree _ _)
  · exact (goto_popFree _ _).trans (sleepMs_popFree _ _)

theorem recover_popFree {full : Bool} {s t : State} (h : recover full s = .next t) : PopFree s t := by
  unfold recover at h; split at h
  · have assert : PopFree s (assertReset s) := (goto_popFree _ _).trans (store_popFree _ _ _)
    have release : ∀ a, PopFree a (releaseReset a) := fun _ => (goto_popFree _ _).trans (clearControl_popFree _ _)
    exact ((assert.trans (holdReset_popFree _ _)).trans (release _)).trans (reconfigure_popFree h)
  · cases h; exact recoverFifo_popFree s

theorem clearEof_popFree (s : State) : PopFree s (clearEof s) := by
  unfold clearEof; split
  · exact (goto_popFree _ _).trans (store_popFree _ _ _)
  · exact .edit rfl

theorem classify_popFree (field : Layout → Fin 8) (x : ErrorClass) (s : State) :
    PopFree s (classify field x s) := by
  unfold classify; split
  · exact record_popFree rfl s
  · exact .edit rfl

theorem finishFromF4_popFree (s : State) : PopFree s (finishFromF4 s) := by
  have classified : PopFree s (classifyErrors s) :=
    (((goto_popFree _ _).trans (classify_popFree _ _ _)).trans (classify_popFree _ _ _)).trans (classify_popFree _ _ _)
  have cleared : ∀ a, PopFree a (clearErrors a) := fun _ => (goto_popFree _ _).trans (store_popFree _ _ _)
  have recovered : ∀ a, PopFree a (call .f6 recoverFifo (goto .f6 a)) := fun _ =>
    (goto_popFree _ _).trans (call_popFree _ recoverFifo_popFree _)
  have failed : ∀ a, PopFree a (failFinish a) := fun _ => .edit rfl
  exact ((classified.trans (cleared _)).trans (recovered _)).trans (failed _)

theorem judge_popFree (s : State) : PopFree s (judge s) := by
  unfold judge; split
  · exact .edit rfl
  · exact (goto_popFree _ _).trans (finishFromF4_popFree _)

/-- FINISH pops nothing, whatever its result. -/
theorem finish_popFree (s : State) : PopFree s (finish s) := by
  have eof : PopFree s (readEof s) := (goto_popFree _ _).trans (loadStatus_popFree (fun _ => rfl) _)
  have errors : ∀ a, PopFree a (readErrors a) := fun _ => (goto_popFree _ _).trans (loadError_popFree _)
  exact ((eof.trans (clearEof_popFree _)).trans (errors _)).trans (judge_popFree _)

/-! WRITE. -/

theorem pushGuarded_popFree (b : Byte) (s : State) : PopFree s (pushGuarded b s) := by
  unfold pushGuarded; split
  · exact .edit rfl
  · exact store_popFree _ _ _

theorem pushPayload_popFree (l : List Byte) (j : Byte) (s : State) : PopFree s (pushPayload l j s) := by
  induction l generalizing j s with
  | nil => exact .edit rfl
  | cons b rest ih =>
    have index : PopFree s { s with eng := { s.eng with j := j } } := .edit rfl
    have guard : PopFree s (guardRead j s) := index.trans (loadStatus_popFree (fun _ => rfl) _)
    exact (guard.trans (pushGuarded_popFree b _)).trans (ih _ _)

theorem pushHeader_popFree (s : State) : PopFree s (pushHeader s) :=
  (((goto_popFree _ _).trans (store_popFree _ _ _)).trans (store_popFree _ _ _)).trans (store_popFree _ _ _)

theorem pushBody_popFree (s : State) : PopFree s (pushBody s) := by
  unfold pushBody; split
  · exact .edit rfl
  · exact ((goto_popFree _ _).trans (store_popFree _ _ _)).trans (pushPayload_popFree _ _ _)

theorem timedOut_popFree {s t : State} (h : timedOut s = .next t) : PopFree s t := by
  obtain ⟨u, hu, ht⟩ := andThen_next h
  cases ht
  exact ((setTimeouts_popFree _ s).trans (callOrStop_popFree (fun _ _ => recover_popFree) hu)).trans
    (raiseErr_popFree _ u)

theorem writeFromW7_popFree {s t : State} (h : writeFromW7 s = .next t) : PopFree s t := by
  have await : PopFree s (awaitCompletion s) := (goto_popFree _ _).trans (call_popFree _ (waitComplete_popFree _) _)
  unfold writeFromW7 concludeWrite at h; split at h
  · cases h; exact (await.trans (setTimeouts_popFree _ _)).trans (returnOk_popFree _)
  · exact await.trans (timedOut_popFree h)

theorem writeFromW5_popFree {s t : State} (h : writeFromW5 s = .next t) : PopFree s t := by
  have idle : PopFree s (checkIdle s) := (goto_popFree _ _).trans (call_popFree _ waitIdle_popFree _)
  have trig : ∀ a, PopFree a (trigger a) := fun _ =>
    ((goto_popFree _ _).trans (setControl_popFree _ _)).trans (delayUs_popFree _ _)
  unfold writeFromW5 transmit at h; split at h
  · exact (idle.trans (trig _)).trans (writeFromW7_popFree h)
  · cases h; exact idle

/-- WRITE pops nothing, whatever its result. -/
theorem write_popFree {s t : State} (h : write s = .next t) : PopFree s t := by
  have room : PopFree s (checkRoom s) := (goto_popFree _ _).trans (loadStatus_popFree (fun _ => rfl) _)
  have clear : ∀ a, PopFree a (clearPendingReset a) := fun _ => (goto_popFree _ _).trans (clearControl_popFree _ _)
  unfold write writeAfterCheck at h; split at h
  · cases h; exact room.trans (raiseErr_popFree _ _)
  · exact (((room.trans (clear _)).trans (pushHeader_popFree _)).trans (pushBody_popFree _)).trans
      (writeFromW5_popFree h)

/-! READ: the history grows, and a slot whose wait ends in `Ok` is popped. -/

theorem rxDecide_popFree {again : State → State} (h : ∀ a, PopFree a (again a)) (s : State) :
    PopFree s (rxDecide again s) := by
  have delay : ∀ a, PopFree a (rxDelay a) := fun _ => (delayUs_popFree _ _).trans (countAttempt_popFree _)
  unfold rxDecide; split
  · exact ((goto_popFree _ s).trans (delay _)).trans (h _)
  · exact .edit rfl

theorem slotWait_popFree (n : Nat) (s : State) : PopFree s (slotWait n s) := by
  induction n generalizing s with
  | zero => exact .edit rfl
  | succ n ih =>
    have poll : PopFree s (rxPoll s) := (goto_popFree _ _).trans (loadStatus_popFree (fun _ => rfl) _)
    exact poll.trans (rxDecide_popFree ih _)

theorem awaitSlot_popFree (s : State) : PopFree s (awaitSlot s) :=
  ((goto_popFree _ s).trans (setAttempts_popFree _ _)).trans (slotWait_popFree _ _)

/-- D5 records one pop; what the other agents do after it is none. -/
theorem popSlot_pops (s : State) :
    s.history <:+ (popSlot s).history ∧ enginePops (popSlot s) = enginePops s + 1 := by
  have after := others_popFree (latchB (regRead .eng .rdData (goto .d5 s)))
  refine ⟨.trans ?_ after.grows, after.pops.trans ?_⟩
  · simp
  · simp [enginePops, List.countP_cons, isEnginePop]

theorem placeByte_history (cmd : Byte) (len : Half) (s : State) : (placeByte cmd len s).history = s.history := by
  unfold placeByte; split <;> split <;> rfl

/-- D6 and the slots after it only add events. -/
theorem keepByte_grows (cmd : Byte) (len : Half) {again : State → State}
    (h : ∀ a, a.history <:+ (again a).history) (s : State) : s.history <:+ (keepByte cmd len again s).history := by
  have placed : (placeByte cmd len (goto .d6 s)).history = s.history := placeByte_history _ _ _
  unfold keepByte; split
  · exact placed ▸ List.suffix_rfl
  · have later := h (setSlot (s.eng.i + 1) (placeByte cmd len (goto .d6 s)))
    rwa [setSlot_history, placed] at later

theorem takeByte_grows (cmd : Byte) (len : Half) {again : State → State}
    (h : ∀ a, a.history <:+ (again a).history) (s : State) : s.history <:+ (takeByte cmd len again s).history := by
  unfold takeByte; split
  · exact (popSlot_pops s).1.trans (keepByte_grows _ _ h _)
  · exact List.suffix_rfl

theorem slotLoop_grows (cmd : Byte) (len : Half) (left : Nat) (s : State) :
    s.history <:+ (slotLoop cmd len left s).history := by
  induction left generalizing s with
  | zero => exact List.suffix_rfl
  | succ left ih => exact (awaitSlot_popFree s).grows.trans (takeByte_grows _ _ ih _)

theorem concludeRead_popFree (s : State) : PopFree s (concludeRead s) := by
  unfold concludeRead; split <;> exact .edit rfl

theorem checkLength_popFree (len : Half) (s : State) : PopFree s (checkLength len s) := by
  unfold checkLength; split
  · exact .edit rfl
  · exact (goto_popFree _ _).trans (record_popFree rfl _)

/-- D7 to D9 pop nothing. -/
theorem afterSlots_popFree (len : Half) (s : State) : PopFree s (afterSlots len s) := by
  unfold afterSlots; split
  · exact ((checkLength_popFree len s).trans ((goto_popFree _ _).trans (call_popFree _ waitIdle_popFree _))).trans
      (concludeRead_popFree _)
  · exact .edit rfl

theorem read_grows (len : Half) (cmd : Byte) (s : State) : s.history <:+ (read len cmd s).history :=
  (slotLoop_grows cmd len (slotCount len) (setSlot 0 (startRead s))).trans (afterSlots_popFree _ _).grows

/-- READ has at least two slots; when the wait for the first one times out READ fails, else that slot is popped (R155, R156). -/
theorem read_ok_pops {len : Half} {cmd : Byte} {s : State} (hok : (read len cmd s).eng.res = .ok) :
    enginePops s < enginePops (read len cmd s) := by
  let w := awaitSlot (setSlot 0 (startRead s))
  have first : readSlots cmd len (startRead s) = takeByte cmd len (slotLoop cmd len (len.toNat + 1)) w := rfl
  have waited : enginePops w = enginePops s := (awaitSlot_popFree _).pops
  unfold read at hok ⊢
  rw [first] at hok ⊢
  unfold takeByte at hok ⊢
  split at hok
  case isTrue slotOk =>
    rw [if_pos slotOk, (afterSlots_popFree _ _).pops]
    have popped := (popSlot_pops w).2
    have rest := enginePops_mono (keepByte_grows cmd len (slotLoop_grows cmd len (len.toNat + 1)) (popSlot w))
    omega
  case isFalse timeout =>
    rw [afterSlots, if_neg timeout] at hok
    exact absurd ((returnedOk_iff w).mpr hok) timeout

/-! TRANSFER. -/

theorem concludeTransfer_popFree (s : State) : PopFree s (concludeTransfer s) := by
  unfold concludeTransfer; split <;> exact .edit rfl

theorem transferFromT4_popFree (s : State) : PopFree s (transferFromT4 s) := by
  have fin : PopFree s (call .t4 finish (goto .t4 s)) := (goto_popFree _ _).trans (call_popFree _ finish_popFree _)
  exact fin.trans (concludeTransfer_popFree _)

theorem afterRead_popFree (s : State) : PopFree s (afterRead s) := by
  unfold afterRead; split
  · exact transferFromT4_popFree s
  · exact .edit rfl

/-- Without a read phase the rest of TRANSFER pops nothing. -/
theorem afterWrite_popFree {s : State} (h : readsResponse s.cfg s.eng.req = false) : PopFree s (afterWrite s) := by
  unfold afterWrite readPhase; split
  · rw [h]; exact (goto_popFree _ _).trans (afterRead_popFree _)
  · exact .edit rfl

theorem readPhase_grows (s : State) : s.history <:+ (readPhase s).history := by
  unfold readPhase; split
  · exact read_grows _ _ (enter .t3 (goto .t3 s))
  · exact List.suffix_rfl

theorem afterWrite_grows (s : State) : s.history <:+ (afterWrite s).history := by
  unfold afterWrite; split
  · exact (readPhase_grows s).trans (afterRead_popFree _).grows
  · exact List.suffix_rfl

/-- With a read phase TRANSFER returns `Ok` only after READ did. -/
theorem afterWrite_ok_pops {s : State} (h : readsResponse s.cfg s.eng.req = true)
    (hok : (afterWrite s).eng.res = .ok) : enginePops s < enginePops (afterWrite s) := by
  unfold afterWrite at hok ⊢
  split at hok
  case isFalse failed => exact absurd ((returnedOk_iff s).mpr hok) failed
  case isTrue wrote =>
    rw [if_pos wrote, (afterRead_popFree _).pops]
    have phase : readPhase s = call .t3 readOfRequest (goto .t3 s) := by rw [readPhase, if_pos h]
    rw [phase] at hok ⊢
    refine read_ok_pops (s := enter .t3 (goto .t3 s)) ?_
    by_contra failed
    have stop : returnedOk (call .t3 readOfRequest (goto .t3 s)) ≠ true :=
      fun ok => failed ((returnedOk_iff _).mp ok)
    rw [afterRead, if_neg stop] at hok
    exact failed hok

/-- A TRANSFER that ends has run WRITE on the latched request with an empty response, then the phases after it. -/
theorem transfer_next {r : Request} {s u : State} (h : transfer r s = .next u) :
    ∃ w, PopFree (latchRequest r s) w ∧ u = afterWrite w := by
  unfold transfer at h; split at h
  · obtain ⟨w, hw, hu⟩ := andThen_next h
    cases hu
    have start : PopFree (latchRequest r s) (goto .t2 (latchRequest r (goto .t0 s))) := .edit rfl
    exact ⟨w, start.trans (callOrStop_popFree (fun _ _ => write_popFree) hw), rfl⟩
  · cases h

/-- Settling the response keeps the result, and after `Ok` the response (10_state.md R16). -/
theorem settleResponse_res_rsp (s : State) :
    (settleResponse s).eng.res = s.eng.res ∧ (s.eng.res = .ok → (settleResponse s).eng.rsp = s.eng.rsp) := by
  unfold settleResponse; split
  case isTrue => exact ⟨rfl, fun _ => rfl⟩
  case isFalse failed => exact ⟨rfl, fun ok => absurd ((returnedOk_iff s).mpr ok) failed⟩

/-- The end of TRANSFER keeps the result, and after `Ok` the response. -/
theorem endOperation_transfer (u : State) :
    (endOperation .transfer u).eng.res = u.eng.res ∧
    (u.eng.res = .ok → (endOperation .transfer u).eng.rsp = u.eng.rsp) :=
  settleResponse_res_rsp (putResult (transferResult u) u)

/-- The condition of T3 in the words of R161. -/
theorem readsResponse_iff (p : Params) (r : Request) :
    readsResponse p r = true ↔ r.expectedLength ≠ 0 ∨ r.commandCode = p.pingCmd := by
  simp [readsResponse]

/-- Settles O43: WRITE and FINISH pop nothing and keep the response that T1 emptied; READ, when it runs and TRANSFER returns `Ok`, has popped its first slot. -/
theorem transferSkipsTheReadPhase : Obligations.TransferSkipsTheReadPhase := by
  intro r s t ht
  obtain ⟨-, u, hu, rfl⟩ := runOperation_next ht
  obtain ⟨w, wrote, rfl⟩ := transfer_next hu
  obtain ⟨h, hh⟩ := wrote.grows.trans (afterWrite_grows w)
  obtain ⟨sameRes, keepsRsp⟩ := endOperation_transfer (afterWrite w)
  obtain ⟨-, -, -, history, -⟩ := endOperation_outside .transfer (afterWrite w)
  have counted : enginePops (afterWrite w) = h.countP isEnginePop + enginePops w :=
    (enginePops_of_append hh.symm).trans (congrArg _ wrote.pops.symm)
  have reads := readsResponse_iff w.cfg w.eng.req
  rw [wrote.cfg, wrote.req] at reads
  refine ⟨h, history.trans hh.symm, fun hlen hcmd => ?_, fun hread hok => ?_⟩
  · have skipped : PopFree w (afterWrite w) := afterWrite_popFree <| by
      rw [wrote.cfg, wrote.req, Bool.eq_false_iff, Ne, reads]
      exact fun c => c.elim (· hlen) hcmd
    have noPops : h.countP isEnginePop = 0 := by have := skipped.pops; omega
    refine ⟨fun x hx => ?_, fun hok => ?_⟩
    · simpa using List.countP_eq_zero.mp noPops x hx
    · rw [keepsRsp (sameRes ▸ hok), skipped.rsp, wrote.rsp]; rfl
  · have popped : enginePops w < enginePops (afterWrite w) := afterWrite_ok_pops
      (by rw [wrote.cfg, wrote.req]; exact reads.mpr hread) (sameRes ▸ hok)
    exact List.countP_pos_iff.mp (by omega)

end Sys2Proof.Machine
end

section
/-! PROOF. Family 60_exceptions.md: how every operation can stop (R239). One relation, `StopsOnly`, names the conditions under which an outcome is a fault or a refusal; one lemma an operation that can stop, and the dispatch from them. -/

namespace Sys2Proof.Machine

/-- The outcome is a next state, or the fault of R278 and then `faults`, or a refusal and then `refuses`. -/
inductive StopsOnly (faults refuses : Prop) : Host.Outcome State Fault Refusal → Prop
  | next (t : State) : StopsOnly faults refuses (.next t)
  | fault (h : faults) : StopsOnly faults refuses (.fault .noBitrate)
  | refused (x : Refusal) (h : refuses) : StopsOnly faults refuses (.refused x)

section
variable {p q p' q' : Prop} {r : Host.Outcome State Fault Refusal} {f : State → Host.Outcome State Fault Refusal}

theorem StopsOnly.mono (h : StopsOnly p q r) (hp : p → p') (hq : q → q') : StopsOnly p' q' r := by
  cases h with
  | next t => exact .next t
  | fault c => exact .fault (hp c)
  | refused x c => exact .refused x (hq c)

theorem StopsOnly.andThen (h : StopsOnly p q r) (hf : ∀ t, StopsOnly p q (f t)) :
    StopsOnly p q (andThen r f) := by
  cases h with
  | next t => exact hf t
  | fault c => exact .fault c
  | refused x c => exact .refused x c

/-- A call stops as the sub-operation does. -/
theorem StopsOnly.callOrStop {c : CallSite} {s : State} (h : StopsOnly p q (f (enter c s))) :
    StopsOnly p q (callOrStop c f s) :=
  h.andThen fun _ => .next _

/-- An operation of the engine stops as its body does, and is refused at a busy engine too (R194). -/
theorem StopsOnly.runOperation {op : EngOp} {s : State} (h : StopsOnly p q (f s)) :
    StopsOnly p (s.eng.phase ≠ .idle ∨ q) (runOperation op f s) := by
  by_cases idle : s.eng.phase = .idle
  · rw [runOperation_idle idle]
    exact (h.mono id .inr).andThen fun _ => .next _
  · rw [runOperation_busy idle]
    exact .refused _ (.inl idle)
end

/-- An operation whose body always ends stops at a busy engine only. -/
theorem runOperation_total_stops (op : EngOp) (body : State → State) (s : State) :
    StopsOnly False (s.eng.phase ≠ .idle) (runOperation op (fun t => .next (body t)) s) :=
  have ends : StopsOnly False False (.next (body s)) := .next _
  (StopsOnly.runOperation (f := fun t => .next (body t)) ends).mono id (·.resolve_right id)

/-! The two admission checks in the words of the rules. -/

theorem validBitrate_iff (p : Params) (br : Word) : validBitrate p br = true ↔ AdmittedBitrate p br := by
  simp only [validBitrate, representable, Bool.and_eq_true, bne_iff_ne, beq_iff_eq, decide_eq_true_iff]
  exact Iff.rfl

theorem requestOk_iff (p : Params) (r : Request) : requestOk p r = true ↔ WellFormedRequest p r := by
  simp [requestOk, WellFormedRequest, and_assoc]

/-! RECOVER. -/

/-- The last configured bitrate can be configured again, or there is none: the invariant's clause. -/
def BitrateKept (s : State) : Prop := s.eng.bitrate = 0 ∨ validBitrate s.cfg s.eng.bitrate = true

theorem configure_stops (br : Word) (s : State) : StopsOnly False (validBitrate s.cfg br ≠ true) (configure br s) := by
  unfold configure; split
  case isTrue => exact .next _
  case isFalse invalid => exact .refused _ invalid

theorem reconfigure_noBitrate {s : State} (h : s.eng.bitrate = 0) : reconfigure s = .fault .noBitrate := if_pos h

/-- V4 faults without a bitrate; V5 is refused only with a bitrate that CONFIGURE never admitted. -/
theorem reconfigure_stops (s : State) : StopsOnly (s.eng.bitrate = 0) (¬ BitrateKept s) (reconfigure s) := by
  by_cases zero : s.eng.bitrate = 0
  · rw [reconfigure_noBitrate zero]
    exact .fault zero
  · rw [reconfigure, if_neg zero]
    refine StopsOnly.callOrStop ((configure_stops _ _).mono False.elim fun invalid kept => ?_)
    exact kept.elim zero invalid

/-- V1 to V3 keep the record, so V4 tests the bitrate the full reset began with. -/
theorem recoverFull_eq_reconfigure (inIsr : Bool) (s : State) :
    ∃ t, KeepsRecord s t ∧ recoverFull inIsr s = reconfigure t :=
  ⟨_, ((assertReset_keeps s).trans (holdReset_keeps inIsr _)).trans (releaseReset_keeps _), rfl⟩

theorem recoverFull_noBitrate (inIsr : Bool) {s : State} (h : s.eng.bitrate = 0) :
    recoverFull inIsr s = .fault .noBitrate := by
  obtain ⟨t, kept, eq⟩ := recoverFull_eq_reconfigure inIsr s
  rw [eq, reconfigure_noBitrate (kept.bitrate.trans h)]

theorem recoverFull_stops (inIsr : Bool) (s : State) :
    StopsOnly (s.eng.bitrate = 0) (¬ BitrateKept s) (recoverFull inIsr s) := by
  obtain ⟨t, kept, eq⟩ := recoverFull_eq_reconfigure inIsr s
  rw [eq]
  simpa only [BitrateKept, kept.cfg, kept.bitrate] using reconfigure_stops t

theorem execRecoverFull_noBitrate {s : State} (idle : s.eng.phase = .idle) (h : s.eng.bitrate = 0) :
    execRecoverFull s = .fault .noBitrate := by
  rw [execRecoverFull, runOperation_idle idle, recoverFull_noBitrate _ h, andThen_fault]

theorem execRecoverFull_stops (s : State) :
    StopsOnly (s.eng.bitrate = 0) (s.eng.phase ≠ .idle ∨ ¬ BitrateKept s) (execRecoverFull s) :=
  StopsOnly.runOperation (f := fun t => recoverFull t.inIsr t) (recoverFull_stops s.inIsr s)

theorem recover_stops (full : Bool) (s : State) :
    StopsOnly (full = true ∧ s.eng.bitrate = 0) (¬ BitrateKept s) (recover full s) := by
  unfold recover; split
  case isTrue chosen => exact (recoverFull_stops false s).mono (.intro chosen) id
  case isFalse => exact .next _

/-! WRITE and TRANSFER. -/

/-- A timeout would now be followed by a full reset (R133), and no bitrate was ever configured. -/
def EscalatesWithoutBitrate (s : State) : Prop :=
  s.eng.bitrate = 0 ∧ s.cfg.timeoutThreshold < (s.eng.tocnt + 1).toNat

/-- The two conditions speak of the parameters, the bitrate and the count alone. -/
theorem StopsOnly.of_same {a b : State} {r : Host.Outcome State Fault Refusal}
    (cfg : b.cfg = a.cfg) (bitrate : b.eng.bitrate = a.eng.bitrate) (tocnt : b.eng.tocnt = a.eng.tocnt)
    (h : StopsOnly (EscalatesWithoutBitrate b) (¬ BitrateKept b) r) :
    StopsOnly (EscalatesWithoutBitrate a) (¬ BitrateKept a) r := by
  simpa only [EscalatesWithoutBitrate, BitrateKept, cfg, bitrate, tocnt] using h

theorem StopsOnly.of_keeps {a b : State} {r : Host.Outcome State Fault Refusal} (k : KeepsRecord a b)
    (h : StopsOnly (EscalatesWithoutBitrate b) (¬ BitrateKept b) r) :
    StopsOnly (EscalatesWithoutBitrate a) (¬ BitrateKept a) r :=
  .of_same k.cfg k.bitrate k.tocnt h

theorem escalates_iff (p : Params) (n : Word) : escalates p n = true ↔ p.timeoutThreshold < n.toNat := decide_eq_true_iff

/-- The recovery decides on the count after the increment (R132, R133). -/
theorem timedOut_stops (s : State) : StopsOnly (EscalatesWithoutBitrate s) (¬ BitrateKept s) (timedOut s) := by
  refine StopsOnly.andThen (StopsOnly.callOrStop ?_) fun _ => .next _
  have recovery := recover_stops (escalates s.cfg (s.eng.tocnt + 1)) (enter .w7Recover (countTimeout s))
  simpa [countTimeout, BitrateKept, EscalatesWithoutBitrate, escalates_iff, and_comm] using recovery

theorem writeFromW7_stops (s : State) : StopsOnly (EscalatesWithoutBitrate s) (¬ BitrateKept s) (writeFromW7 s) := by
  unfold writeFromW7 concludeWrite; split
  · exact .next _
  · exact .of_keeps (awaitCompletion_keeps s) (timedOut_stops _)

theorem writeFromW5_stops (s : State) : StopsOnly (EscalatesWithoutBitrate s) (¬ BitrateKept s) (writeFromW5 s) := by
  unfold writeFromW5 transmit; split
  · exact .of_keeps ((checkIdle_keeps s).trans (trigger_keeps _)) (writeFromW7_stops _)
  · exact .next _

/-- W1 to W4 keep the record, so WRITE stops only as its recovery does. -/
theorem write_stops (s : State) : StopsOnly (EscalatesWithoutBitrate s) (¬ BitrateKept s) (write s) := by
  have room : KeepsRecord s (checkRoom s) := (goto_keeps _ s).trans (loadStatus_keeps _ _)
  have clear : ∀ a, KeepsRecord a (clearPendingReset a) := fun _ => (goto_keeps _ _).trans (clearControl_keeps _ _)
  unfold write writeAfterCheck; split
  · exact .next _
  · exact .of_keeps (((room.trans (clear _)).trans (pushHeader_keeps _)).trans (pushBody_keeps _))
      (writeFromW5_stops _)

/-- TRANSFER stops at T0 or as WRITE does: T1 touches neither condition, READ and FINISH never stop. -/
theorem transfer_stops (r : Request) (s : State) :
    StopsOnly (EscalatesWithoutBitrate s) (¬ BitrateKept s ∨ requestOk s.cfg r ≠ true) (transfer r s) := by
  unfold transfer; split
  case isTrue =>
    have writes := write_stops (enter .t2 (goto .t2 (latchRequest r (goto .t0 s))))
    have same : StopsOnly (EscalatesWithoutBitrate s) (¬ BitrateKept s) _ := writes.of_same rfl rfl rfl
    exact (same.callOrStop.andThen fun _ => .next _).mono id .inl
  case isFalse malformed => exact .refused _ (.inr malformed)

/-! Every operation. -/

/-- When an operation faults: a full reset without a bitrate, by itself or after the timeout of a WRITE. -/
def FaultCondition (i : Instr) (s : State) : Prop :=
  s.eng.bitrate = 0 ∧
    (i = .recoverFull ∨
      ((i = .write ∨ ∃ r, i = .transfer r) ∧ s.cfg.timeoutThreshold < (s.eng.tocnt + 1).toNat))

/-- When an operation is refused: in a state that no run reaches between two operations, or for its operand. -/
def RefusalCondition (i : Instr) (s : State) : Prop :=
  s.eng.phase ≠ .idle ∨ ¬ BitrateKept s ∨
    (∃ br, i = .configure br ∧ ¬ AdmittedBitrate s.cfg br) ∨ ∃ r, i = .transfer r ∧ ¬ WellFormedRequest s.cfg r

theorem exec_stops (i : Instr) (s : State) : StopsOnly (FaultCondition i s) (RefusalCondition i s) (exec i s) := by
  cases i with
  | configure br =>
    refine (configure_stops br s).runOperation.mono False.elim (Or.imp_right fun invalid => ?_)
    exact .inr (.inl ⟨br, rfl, fun admitted => invalid ((validBitrate_iff _ _).mpr admitted)⟩)
  | transfer r =>
    refine (transfer_stops r s).runOperation.mono (fun ⟨zero, due⟩ => ⟨zero, .inr ⟨.inr ⟨r, rfl⟩, due⟩⟩)
      (Or.imp_right (Or.imp_right fun malformed => ?_))
    exact .inr ⟨r, rfl, fun wellFormed => malformed ((requestOk_iff _ _).mpr wellFormed)⟩
  | write =>
    exact (write_stops s).runOperation.mono (fun ⟨zero, due⟩ => ⟨zero, .inr ⟨.inl rfl, due⟩⟩) (Or.imp_right .inl)
  | recoverFull =>
    exact (execRecoverFull_stops s).mono (fun zero => ⟨zero, .inl rfl⟩) (Or.imp_right .inl)
  | enable | disable | waitIdle | waitPoll | waitEvent | read | finish | recoverFifo =>
    exact (runOperation_total_stops _ _ s).mono False.elim .inl
  | _ => exact .next _

/-- Settles O33: a fault or a refusal happens only under the condition `exec_stops` names, and the invariant leaves of the refusals those for the operand. -/
theorem onlyAFullResetWithoutBitrateFaults : Obligations.OnlyAFullResetWithoutBitrateFaults := by
  refine ⟨fun s => execRecoverFull_noBitrate, fun i s f faulted => ?_, fun i s x inv refused => ?_⟩
  · have stops := exec_stops i s
    rw [faulted] at stops
    cases stops with
    | fault condition => exact ⟨rfl, condition⟩
  · have stops := exec_stops i s
    rw [refused] at stops
    cases stops with
    | refused _ condition =>
      obtain busy | lost | operand := condition
      · exact absurd inv.engineIdle busy
      · exact absurd inv.consistent.bitrateAdmitted lost
      · exact operand

end Sys2Proof.Machine
end

section
/-! PROOF. Encoding (30_encoding.md): the three ports decode exactly the words the encoder writes, and the step executes what it fetched. -/

namespace Sys2Proof

/-! The accesses of the ten registers, as a family. -/

/-- An operation of family REG is the read or the write of a register. -/
theorem eq_access_of_isRegister {i : Instr} (h : Machine.isRegister i = true) :
    (∃ r : Reg, i = r.readInstr) ∨ ∃ (r : Reg) (v : Byte), i = r.writeInstr v := by
  cases i with
  | rdControl => exact .inl ⟨.control, rfl⟩
  | rdStatus1 => exact .inl ⟨.status1, rfl⟩
  | rdStatus2 => exact .inl ⟨.status2, rfl⟩
  | rdError => exact .inl ⟨.error, rfl⟩
  | rdWrData => exact .inl ⟨.wrData, rfl⟩
  | rdRdData => exact .inl ⟨.rdData, rfl⟩
  | rdBtLow => exact .inl ⟨.btLow, rfl⟩
  | rdBtHigh => exact .inl ⟨.btHigh, rfl⟩
  | rdIntEn1 => exact .inl ⟨.intEn1, rfl⟩
  | rdIntEn2 => exact .inl ⟨.intEn2, rfl⟩
  | wrControl v => exact .inr ⟨.control, v, rfl⟩
  | wrStatus1 v => exact .inr ⟨.status1, v, rfl⟩
  | wrStatus2 v => exact .inr ⟨.status2, v, rfl⟩
  | wrError v => exact .inr ⟨.error, v, rfl⟩
  | wrWrData v => exact .inr ⟨.wrData, v, rfl⟩
  | wrRdData v => exact .inr ⟨.rdData, v, rfl⟩
  | wrBtLow v => exact .inr ⟨.btLow, v, rfl⟩
  | wrBtHigh v => exact .inr ⟨.btHigh, v, rfl⟩
  | wrIntEn1 v => exact .inr ⟨.intEn1, v, rfl⟩
  | wrIntEn2 v => exact .inr ⟨.intEn2, v, rfl⟩
  | _ => cases h

theorem encode_readInstr (l : Layout) (r : Reg) : encode l r.readInstr = .bus (encodeBus l false r 0) := by
  cases r <;> rfl

theorem encode_writeInstr (l : Layout) (r : Reg) (v : Byte) :
    encode l (r.writeInstr v) = .bus (encodeBus l true r v) := by
  cases r <;> rfl

/-- A register access is decoded from its own word. -/
theorem decodeIssue_encode_register (l : Layout) {i : Instr} (h : Machine.isRegister i = true) :
    decodeIssue l (encode l i) = some i := by
  obtain ⟨r, rfl⟩ | ⟨r, v, rfl⟩ := eq_access_of_isRegister h
  · rw [encode_readInstr]; exact decodeBus_encodeBus l false r 0
  · rw [encode_writeInstr]; exact decodeBus_encodeBus l true r v

/-- A register access is never presented at the command port. -/
theorem encode_register_ne_cmd (l : Layout) {i : Instr} (h : Machine.isRegister i = true) (bytes : List Byte) :
    encode l i ≠ .cmd bytes := by
  obtain ⟨r, rfl⟩ | ⟨r, v, rfl⟩ := eq_access_of_isRegister h
  · rw [encode_readInstr]; exact Issue.noConfusion
  · rw [encode_writeInstr]; exact Issue.noConfusion

/-! The command port. -/

/-- The bytes of a bit vector, put together again, are the bit vector. -/
theorem append_extractLsb' {n : Nat} (w k : Nat) (x : BitVec n) :
    x.extractLsb' w k ++ x.extractLsb' 0 w = x.extractLsb' 0 (k + w) := by
  ext i hi
  by_cases h : i < w
  · simp [BitVec.getElem_append, h]
  · simp [BitVec.getElem_append, h, Nat.add_sub_of_le (Nat.le_of_not_lt h)]

theorem half_extract (x : Half) : half (x.extractLsb' 0 8) (x.extractLsb' 8 8) = x := by
  rw [half, append_extractLsb' 8 8 x]; exact BitVec.extractLsb'_eq_self

theorem word_extract (x : Word) :
    word (x.extractLsb' 0 8) (x.extractLsb' 8 8) (x.extractLsb' 16 8) (x.extractLsb' 24 8) = x := by
  have assoc : ∀ a b c d : Byte, word a b c d = (d ++ (c ++ (b ++ a : BitVec 16) : BitVec 24) : BitVec 32) := by
    intro a b c d
    simp only [word, BitVec.append_assoc, BitVec.cast_eq]
  rw [assoc, append_extractLsb' 8 8 x, append_extractLsb' 16 8 x, append_extractLsb' 24 8 x]
  exact BitVec.extractLsb'_eq_self

theorem decodeCommand_encodeConfigure (br : Word) (tail : List Byte) :
    decodeCommand (encodeConfigure br ++ tail) = some (.configure br, tail) := by
  simp [encodeConfigure, decodeCommand, word_extract]

/-- The count byte of an encodable request states its payload's length. -/
theorem toNat_count {r : Request} (h : r.encodable = true) :
    (BitVec.ofNat 8 r.writePayload.length).toNat = r.writePayload.length := by
  have fits : r.writePayload.length ≤ 255 := of_decide_eq_true h
  rw [BitVec.toNat_ofNat]
  exact Nat.mod_eq_of_lt (Nat.lt_succ_of_le fits)

theorem decodeCommand_encodeTransfer {r : Request} (h : r.encodable = true) (tail : List Byte) :
    decodeCommand (encodeTransfer r ++ tail) = some (.transfer r, tail) := by
  simp [encodeTransfer, decodeCommand, toNat_count h, half_extract]

/-- A command is decoded to its operation, and the bytes behind it are left over. -/
theorem decodeCommand_encode {l : Layout} {i : Instr} {bytes : List Byte} (wf : i.wellFormed = true)
    (h : encode l i = .cmd bytes) (tail : List Byte) : decodeCommand (bytes ++ tail) = some (i, tail) := by
  by_cases reg : Machine.isRegister i = true
  · exact absurd h (encode_register_ne_cmd l reg bytes)
  cases i with
  | configure br => cases h; exact decodeCommand_encodeConfigure br tail
  | enable => cases h; rfl
  | disable => cases h; rfl
  | transfer r => cases h; exact decodeCommand_encodeTransfer wf tail
  | waitIdle | write | waitPoll | waitEvent | read | finish | recoverFifo | recoverFull | irqHandler => cases h
  | _ => exact absurd rfl reg

/-- Every operation that has an encoding is decoded from it, in any layout. -/
theorem decodeIssue_encode (l : Layout) {i : Instr} (wf : i.wellFormed = true) :
    decodeIssue l (encode l i) = some i := by
  by_cases reg : Machine.isRegister i = true
  · exact decodeIssue_encode_register l reg
  · cases port : encode l i with
    | cmd bytes =>
      have decoded := decodeCommand_encode wf port []
      rw [List.append_nil] at decoded
      rw [decodeIssue, decoded]; rfl
    | bus w =>
      cases i with
      | configure | enable | disable | transfer | waitIdle | write | waitPoll | waitEvent | read | finish
      | recoverFifo | recoverFull | irqHandler => cases port
      | _ => exact absurd rfl reg
    | micro id =>
      cases i with
      | waitIdle | write | waitPoll | waitEvent | read | finish | recoverFifo | recoverFull | irqHandler =>
        cases port; rfl
      | configure | enable | disable | transfer => cases port
      | _ => exact absurd rfl reg

/-- Settles O54: register words by the fields of the word, commands by their operand bytes, identifiers by the table; what follows a command stays over. -/
theorem decodeInvertsEncode : Obligations.DecodeInvertsEncode := by
  refine ⟨fun l i wf => decodeIssue_encode l wf, fun l i bytes tail wf h => ?_⟩
  have decoded := decodeCommand_encode wf h tail
  exact ⟨decoded, by rw [decodeIssue, decoded]; rfl⟩

/-- Settles O55: seven words of the default layout, each decoded by computation. -/
theorem specWordsDecode : Obligations.SpecWordsDecode := by
  unfold Obligations.SpecWordsDecode; decide

/-! What does not decode. -/

/-- The ten register numbers of a layout are all of 0 to 9 (30_encoding.md R61). -/
theorem exists_number_eq (l : Layout) {n : Nat} (h : n ≤ 9) : ∃ r : Reg, r.number l = n := by
  let numbers := [l.control, l.status1, l.status2, l.error, l.wrData, l.rdData, l.btLow, l.btHigh, l.intEn1, l.intEn2]
  have all : numbers.toFinset = Finset.univ := by
    apply Finset.eq_univ_of_card
    rw [List.toFinset_card_of_nodup l.numbersDistinct]; rfl
  have mem : (⟨n, Nat.lt_succ_of_le h⟩ : Fin 10) ∈ numbers := by
    rw [← List.mem_toFinset, all]; exact Finset.mem_univ _
  have listed : n ∈ Reg.all.map (Reg.number l) := List.mem_map_of_mem (f := Fin.val) mem
  obtain ⟨r, -, hr⟩ := List.mem_map.mp listed
  exact ⟨r, hr⟩

theorem regOfNumber_isSome (l : Layout) (n : Nat) : (regOfNumber l n).isSome = true ↔ n ≤ 9 := by
  constructor
  · intro h
    obtain ⟨r, hr⟩ := Option.isSome_iff_exists.mp h
    have named : r.number l = n := by simpa using List.find?_some hr
    exact named ▸ r.number_le l
  · intro h
    obtain ⟨r, rfl⟩ := exists_number_eq l h
    simp

theorem busZeroField_eq_zero (w : Half) : busZeroField w = 0 ↔ w.toNat / 4096 % 8 = 0 := by
  rw [← BitVec.toNat_inj]
  simp [busZeroField, BitVec.extractLsb'_toNat, Nat.shiftRight_eq_div_pow]

theorem busNumber_eq (w : Half) : busNumber w = w.toNat / 256 % 16 := by
  simp [busNumber, BitVec.extractLsb'_toNat, Nat.shiftRight_eq_div_pow]

theorem decodeBus_isSome (l : Layout) (w : Half) :
    (decodeBus l w).isSome = true ↔ w.toNat / 4096 % 8 = 0 ∧ w.toNat / 256 % 16 ≤ 9 := by
  rw [← busZeroField_eq_zero, ← busNumber_eq, ← regOfNumber_isSome l]
  unfold decodeBus; split
  case isTrue zero => cases regOfNumber l (busNumber w) <;> simp [zero]
  case isFalse reserved => simpa using fun zero => absurd zero reserved

theorem decodeMicro_isSome (id : Byte) : (decodeMicro id).isSome = true ↔ 0x10 ≤ id.toNat ∧ id.toNat ≤ 0x18 := by
  revert id; decide

/-- A first byte that is no operation code begins no command (R72). -/
theorem decodeCommand_reserved {op : Byte} (h : op = 0x00 ∨ 0x05 ≤ op.toNat) (rest : List Byte) :
    decodeCommand (op :: rest) = none := by
  have noCode : op ≠ 0x01 ∧ op ≠ 0x02 ∧ op ≠ 0x03 ∧ op ≠ 0x04 := by
    refine ⟨?_, ?_, ?_, ?_⟩ <;> rintro rfl <;> revert h <;> decide
  obtain ⟨h1, h2, h3, h4⟩ := noCode
  unfold decodeCommand
  dsimp only
  rw [if_neg h1, if_neg h2, if_neg h3, if_neg h4]

/-- CONFIGURE without its four operand bytes is no command. -/
theorem decodeCommand_configure_short {rest : List Byte} (h : rest.length < 4) :
    decodeCommand (0x01 :: rest) = none := by
  match rest, h with
  | [], _ | [_], _ | [_, _], _ | [_, _, _], _ => rfl
  | _ :: _ :: _ :: _ :: _, h => simp at h; omega

/-- TRANSFER without its five leading operand bytes is no command. -/
theorem decodeCommand_transfer_short {rest : List Byte} (h : rest.length < 5) :
    decodeCommand (0x04 :: rest) = none := by
  match rest, h with
  | [], _ | [_], _ | [_, _], _ | [_, _, _], _ | [_, _, _, _], _ => rfl
  | _ :: _ :: _ :: _ :: _ :: _, h => simp at h; omega

/-- TRANSFER with fewer payload bytes than its count byte states is no command. -/
theorem decodeCommand_transfer_cut (a c lo hi m : Byte) {tail : List Byte} (h : tail.length < m.toNat) :
    decodeCommand (0x04 :: a :: c :: lo :: hi :: m :: tail) = none := by
  simp [decodeCommand, h]

/-! The step: whose turn it is, and what the engine fetches. -/

namespace Machine

/-- At another agent's turn the step is that agent's move. -/
theorem step_other {m : Turn} (h : m ≠ .eng) (s : State) (rest : List Turn) :
    step { s with turns := m :: rest } = .next (agentStep m { s with turns := rest }) := by
  cases m with
  | eng => exact absurd rfl h
  | _ => rfl

/-- With no turn left the engine moves. -/
theorem step_quiet {s : State} (h : s.turns = []) : step s = engineStep s := by
  simp [step, takeTurn, h]

/-- At the engine's turn the engine moves, its turn used. -/
theorem step_eng {s : State} {ts : List Turn} (h : s.turns = .eng :: ts) :
    step s = engineStep { s with turns := ts } := by
  simp [step, takeTurn, h]

/-- The engine executes the operation it decodes, the port empty. -/
theorem engineStep_decoded {s : State} {x : Issue} {i : Instr} (port : s.port = some x)
    (h : decodeIssue s.cfg.layout x = some i) : engineStep s = exec i { s with port := none } := by
  simp [engineStep, fetch, port, h]

/-- What encodes no operation is refused. -/
theorem engineStep_illegal {s : State} {x : Issue} (port : s.port = some x)
    (h : decodeIssue s.cfg.layout x = none) : engineStep s = .refused (illegalIssue x) := by
  simp [engineStep, fetch, port, h]

/-- With nothing presented the engine goes on with what it was doing. -/
theorem engineStep_resume {s : State} (port : s.port = none) : engineStep s = resume s := by
  simp [engineStep, fetch, port]

/-- Settles O57: the turn order gives the engine its turn, and the engine executes what it decodes. -/
theorem stepRunsTheDecodedOperation : Obligations.StepRunsTheDecodedOperation := by
  intro s x i port h
  refine ⟨fun quiet => ?_, fun ts turns => ?_⟩
  · rw [step_quiet quiet, engineStep_decoded port h]
  · rw [step_eng turns, engineStep_decoded (s := { s with turns := ts }) port h]

/-- Settles O56: one lemma a port says what decodes there, and the engine refuses what does not. -/
theorem reservedWordsAreRefused : Obligations.ReservedWordsAreRefused := by
  refine ⟨decodeBus_isSome, decodeMicro_isSome, fun op rest h => decodeCommand_reserved h rest, rfl,
    fun rest => decodeCommand_configure_short, fun rest => decodeCommand_transfer_short,
    fun a c lo hi m tail => decodeCommand_transfer_cut a c lo hi m, fun s x quiet port h => ⟨illegalIssue x, ?_⟩⟩
  rw [step_quiet quiet, engineStep_illegal port h]

end Machine

end Sys2Proof
end

section
/-! PROOF. Family REG (40_register_ops.md): what the read and the write of each register do, and what every register operation leaves alone. -/

namespace Sys2Proof.Machine

/-! `CONTROL`, by the reset bits of the written value (R81). -/

theorem writeControl_rst {v : Byte} {s : State} (h : hasBit v s.cfg.layout.rst = true) :
    writeControl v s = { s with
      ctl := { clearStatus s.cfg (dropFifosAndFrame (assignControl s.cfg.layout v s.ctl)) with
        btLow := Config.freeByte s.draws, btHigh := Config.freeByte (s.draws + 1) }
      draws := s.draws + 2 } := by
  cases h2 : hasBit v s.cfg.layout.frst <;> cases h3 : s.cfg.rstClearsStatus <;>
    simp [writeControl, applyFrst, applyRst, controllerReset, fifoReset, loseBitTiming, clearStatus,
      dropFifosAndFrame, assignControl, draw, h, h2, h3]

theorem writeControl_frst {v : Byte} {s : State} (h1 : hasBit v s.cfg.layout.rst = false)
    (h2 : hasBit v s.cfg.layout.frst = true) :
    writeControl v s = { s with ctl := dropFifosAndFrame (assignControl s.cfg.layout v s.ctl) } := by
  simp [writeControl, applyFrst, applyRst, fifoReset, assignControl, h1, h2]

/-- Under either reset both FIFOs are empty and the frame is dropped. -/
theorem writeControl_under_reset {v : Byte} {s : State}
    (h : hasBit v s.cfg.layout.rst = true ∨ hasBit v s.cfg.layout.frst = true) :
    (writeControl v s).ctl.wfifo = [] ∧ (writeControl v s).ctl.rfifo = [] ∧
    (writeControl v s).ctl.frame = { active := false, eofDone := false } ∧
    (writeControl v s).ctl.invalidated = false := by
  cases rst : hasBit v s.cfg.layout.rst with
  | true => rw [writeControl_rst rst]; cases c : s.cfg.rstClearsStatus <;> simp [clearStatus, c, dropFifosAndFrame]
  | false => rw [writeControl_frst rst (by simpa [rst] using h)]; simp [dropFifosAndFrame]

/-- `EOF` and `ERROR` are cleared by the controller reset, when it clears status at all. -/
theorem writeControl_status (v : Byte) (s : State) :
    (writeControl v s).ctl.eof = (s.ctl.eof && !(hasBit v s.cfg.layout.rst && s.cfg.rstClearsStatus)) ∧
    (writeControl v s).ctl.error = if hasBit v s.cfg.layout.rst && s.cfg.rstClearsStatus then 0 else s.ctl.error := by
  cases rst : hasBit v s.cfg.layout.rst with
  | true =>
    rw [writeControl_rst rst]
    cases c : s.cfg.rstClearsStatus <;> simp [clearStatus, c, dropFifosAndFrame, assignControl]
  | false =>
    cases frst : hasBit v s.cfg.layout.frst with
    | true => rw [writeControl_frst rst frst]; simp [dropFifosAndFrame, assignControl]
    | false => rw [writeControl_plain v s rst frst]; simp [assignControl]

/-- Without the controller reset the bit timing stands and no free value is used. -/
theorem writeControl_timing {v : Byte} {s : State} (h : hasBit v s.cfg.layout.rst = false) :
    (writeControl v s).ctl.btLow = s.ctl.btLow ∧ (writeControl v s).ctl.btHigh = s.ctl.btHigh ∧
    (writeControl v s).draws = s.draws := by
  cases frst : hasBit v s.cfg.layout.frst with
  | true => rw [writeControl_frst h frst]; simp [dropFifosAndFrame, assignControl]
  | false => rw [writeControl_plain v s h frst]; simp [assignControl]

/-- A register write touches the controller, the draws and the record of the access. -/
theorem regWrite_outside (who : Agent) (r : Reg) (v : Byte) (s : State) :
    regWrite who r v s = { s with
      ctl := (regWrite who r v s).ctl, draws := (regWrite who r v s).draws, history := .wr who r v :: s.history } := by
  simp only [regWrite]; rw [writeReg_outside]; rfl

/-- A register read touches the controller, the draws and the two records of the access. -/
theorem regRead_outside (who : Agent) (r : Reg) (s : State) :
    regRead who r s = { s with
      ctl := (regRead who r s).ctl, draws := (regRead who r s).draws, rdata := (readReg r s).1
      history := .rd who r (readReg r s).1 :: s.history } := by
  simp only [regRead, present]; rw [readReg_outside]; rfl

/-- Settles O1: the value is `controlByte`, whose bits are the four fields. -/
theorem readControlShowsFourFields : Obligations.ReadControlShowsFourFields := by
  have read (s : State) : exec .rdControl s = .next { s with
      rdata := controlByte s.cfg.layout s.ctl
      history := .rd .host .control (controlByte s.cfg.layout s.ctl) :: s.history } :=
    (exec_readInstr .control s).trans (congrArg _ (regRead_pure rfl))
  refine ⟨decodeBus_encodeBus Layout.default false .control, fun s => ⟨_, read s, ?_⟩, fun t h => ?_, _, read _⟩
  · exact ⟨hasBit_controlByte_pd _ _, hasBit_controlByte_rst _ _, hasBit_controlByte_frst _ _,
      hasBit_controlByte_txen _ _, fun k => hasBit_controlByte_reserved _ _ k⟩
  · cases (read _).symm.trans h; decide

/-- Settles O2: the four fields come from the written value; the rest is what the controller reset and the FIFO reset do, by case on the two bits. -/
theorem writeControlAppliesResets : Obligations.WriteControlAppliesResets := by
  refine ⟨decodeBus_encodeBus Layout.default true .control, fun v s => ⟨_, exec_writeInstr .control v s, ?_⟩⟩
  obtain ⟨pd, rst, frst, txen⟩ := writeControl_fields v s
  obtain ⟨eof, error⟩ := writeControl_status v s
  obtain ⟨intEn1, intEn2⟩ := writeControl_intEn v s
  refine ⟨pd, rst, frst, txen, fun (noRst : hasBit v _ = false) (noFrst : hasBit v _ = false) => ?_, fun reset => ?_, fun reset clears => ?_, fun kept => ?_,
    fun noRst => writeControl_timing noRst, fun reset => ?_, intEn1, intEn2, regWrite_outside .host .control v s⟩
  · have plain := writeControl_plain v s noRst noFrst
    refine ⟨(congrArg State.ctl plain).trans ?_, (congrArg State.draws plain).trans rfl⟩
    rw [assignControl, noRst, noFrst]; rfl
  · obtain ⟨wfifo, rfifo, frame, -⟩ := writeControl_under_reset (v := v) (s := s) reset
    exact ⟨wfifo, rfifo, frame⟩
  · have both : (hasBit v s.cfg.layout.rst && s.cfg.rstClearsStatus) = true := by simp [clears]; exact reset
    exact ⟨eof.trans (by simp [both]), error.trans (by simp [both])⟩
  · have neither : (hasBit v s.cfg.layout.rst && s.cfg.rstClearsStatus) = false := by
      rw [Bool.and_eq_false_iff]; exact kept
    exact ⟨eof.trans (by simp [neither]), error.trans (by simp [neither])⟩
  · have reset' := writeControl_rst (v := v) (s := s) reset
    exact ⟨congrArg (fun t => t.ctl.btLow) reset', congrArg (fun t => t.ctl.btHigh) reset', congrArg State.draws reset'⟩

/-! `STATUS2`. -/

theorem wffFlag_iff (s : State) : wffFlag s = true ↔ s.ctl.wfifo.length = s.cfg.wfifoDepth := beq_iff_eq
theorem rffFlag_iff (s : State) : rffFlag s = true ↔ s.ctl.rfifo.length = s.cfg.rfifoDepth := beq_iff_eq
theorem wfeFlag_iff (s : State) : wfeFlag s = true ↔ s.ctl.wfifo = [] := List.isEmpty_iff
theorem rfeFlag_iff (s : State) : rfeFlag s = true ↔ s.ctl.rfifo = [] := List.isEmpty_iff
theorem idleFlag_iff (s : State) : idleFlag s = true ↔ s.ctl.pd = true ∨ s.busIdle = true := by simp [idleFlag]

/-- With one place in the write FIFO it is either empty or full. -/
theorem wffFlag_of_depth_one {s : State} (c : Consistent s) (one : s.cfg.wfifoDepth = 1) :
    wffFlag s = !wfeFlag s := by
  have fits := c.wfifoFits
  rw [one] at fits
  match h : s.ctl.wfifo, fits with
  | [], _ => simp [wffFlag, wfeFlag, h, one]
  | [b], _ => simp [wffFlag, wfeFlag, h, one]
  | _ :: _ :: _, fits => simp at fits

/-- Settles O4: the value is `status2Byte`, whose bits are the five predicates. -/
theorem status2IsComputedAtTheRead : Obligations.Status2IsComputedAtTheRead := by
  refine ⟨decodeBus_encodeBus Layout.default false .status2, decodeBus_encodeBus Layout.default true .status2,
    fun s => ⟨status2Byte s, (exec_readInstr .status2 s).trans (congrArg _ (regRead_pure rfl)), ?_⟩, fun v s => rfl⟩
  have idle : (status2Byte s).getLsbD s.cfg.layout.idle = idleFlag s := hasBit_status2Byte_idle s
  have wff : (status2Byte s).getLsbD s.cfg.layout.wff = wffFlag s := hasBit_status2Byte_wff s
  have wfe : (status2Byte s).getLsbD s.cfg.layout.wfe = wfeFlag s := hasBit_status2Byte_wfe s
  have rff : (status2Byte s).getLsbD s.cfg.layout.rff = rffFlag s := hasBit_status2Byte_rff s
  have rfe : (status2Byte s).getLsbD s.cfg.layout.rfe = rfeFlag s := hasBit_status2Byte_rfe s
  rw [idle, wff, wfe, rff, rfe]
  refine ⟨Bool.or_comm _ _, wffFlag_iff s, ?_, rffFlag_iff s, ?_, fun k => hasBit_status2Byte_reserved s k,
    fun c one => wffFlag_of_depth_one c one, fun c held => ?_⟩
  · rw [wfeFlag_iff, List.length_eq_zero_iff]
  · rw [rfeFlag_iff, List.length_eq_zero_iff]
  · obtain ⟨wfifo, rfifo, -⟩ := c.heldEmpty held
    exact ⟨(wfeFlag_iff s).mpr wfifo, (rfeFlag_iff s).mpr rfifo⟩

/-! `WR_DATA` and `RD_DATA`. -/

theorem writeWrData_eq (b : Byte) (s : State) : writeWrData b s = { s with
    ctl := { s.ctl with wfifo :=
      if s.ctl.rst = true ∨ s.ctl.frst = true ∨ s.ctl.wfifo.length = s.cfg.wfifoDepth then s.ctl.wfifo
      else s.ctl.wfifo ++ [b] } } := by
  by_cases held : s.ctl.rst = true ∨ s.ctl.frst = true
  · have discarded : (s.ctl.rst || s.ctl.frst) = true := by simpa using held
    rw [writeWrData, if_pos discarded, if_pos (by tauto)]
  · have open' : ¬ (s.ctl.rst || s.ctl.frst) = true := by simpa using held
    rw [writeWrData, if_neg open']
    by_cases full : s.ctl.wfifo.length = s.cfg.wfifoDepth
    · rw [if_pos ((wffFlag_iff s).mpr full), if_pos (by tauto)]
    · rw [if_neg (fun f => full ((wffFlag_iff s).mp f)), if_neg (by tauto)]

/-- Settles O6: the read is a draw, the write is `writeWrData`. -/
theorem writeDataPushesOrDrops : Obligations.WriteDataPushesOrDrops := by
  refine ⟨decodeBus_encodeBus Layout.default false .wrData, decodeBus_encodeBus Layout.default true .wrData,
    fun s => rfl, fun b s => ?_⟩
  refine (exec_writeInstr .wrData b s).trans (congrArg _ ?_)
  rw [regWrite, writeReg, writeWrData_eq]; rfl

theorem readRdData_cons {s : State} {b : Byte} {rest : List Byte} (h : s.ctl.rfifo = b :: rest) :
    readRdData s = (b, { s with ctl := { s.ctl with rfifo := rest } }) := by
  simp [readRdData, h]

theorem readRdData_nil {s : State} (h : s.ctl.rfifo = []) : readRdData s = draw s := by
  simp [readRdData, h]

/-- Settles O7: the read of a filled and of an empty FIFO, and the write that does nothing. -/
theorem readDataPops : Obligations.ReadDataPops := by
  refine ⟨decodeBus_encodeBus Layout.default false .rdData, decodeBus_encodeBus Layout.default true .rdData,
    fun s b rest h => ?_, fun s h => ?_, fun v s => rfl⟩
  · refine (exec_readInstr .rdData s).trans (congrArg _ ?_)
    rw [regRead, readReg, readRdData_cons h]; rfl
  · refine (exec_readInstr .rdData s).trans (congrArg _ ?_)
    rw [regRead, readReg, readRdData_nil h]; rfl

/-! Storage registers. -/

/-- Settles O8: the reads are pure and the writes store all eight bits. -/
theorem bitTimingIsStorage : Obligations.BitTimingIsStorage := by
  refine ⟨fun d => ⟨?_, ?_, ?_, ?_⟩, fun s => ⟨rfl, rfl⟩, fun v s => ⟨rfl, rfl⟩⟩
  · exact decodeBus_encodeBus Layout.default false .btLow d
  · exact decodeBus_encodeBus Layout.default true .btLow d
  · exact decodeBus_encodeBus Layout.default false .btHigh d
  · exact decodeBus_encodeBus Layout.default true .btHigh d

/-- A byte is not 0 when some bit shows. -/
theorem byte_ne_zero_iff (v : Byte) : v ≠ 0 ↔ ∃ p : Fin 8, hasBit v p = true := by
  constructor
  · intro h
    by_contra none
    exact h (byte_ext fun p => by rw [hasBit_zero, Bool.eq_false_iff]; exact fun b => none ⟨p, b⟩)
  · rintro ⟨p, h⟩ rfl
    rw [hasBit_zero] at h; cases h

/-- The line is up when an enabled status bit shows (R29). -/
theorem irqLine_iff (s : State) : irqLine s = true ↔
    (s.ctl.eof = true ∧ hasBit s.ctl.intEn1 s.cfg.layout.eof = true) ∨
    (idleFlag s = true ∧ hasBit s.ctl.intEn2 s.cfg.layout.idle = true) ∨
    (wffFlag s = true ∧ hasBit s.ctl.intEn2 s.cfg.layout.wff = true) ∨
    (wfeFlag s = true ∧ hasBit s.ctl.intEn2 s.cfg.layout.wfe = true) ∨
    (rffFlag s = true ∧ hasBit s.ctl.intEn2 s.cfg.layout.rff = true) ∨
    (rfeFlag s = true ∧ hasBit s.ctl.intEn2 s.cfg.layout.rfe = true) := by
  rw [irqLine, bne_iff_ne, byte_ne_zero_iff]
  simp only [status1Byte, status2Byte, hasBit_or, hasBit_and, hasBit_flag, Bool.or_eq_true, Bool.and_eq_true,
    decide_eq_true_eq, or_and_right, exists_or, and_assoc, exists_and_left, exists_eq_left']
  tauto

/-- Settles O9: the registers store, and the line is the enabled status bits. -/
theorem interruptEnablesDriveTheLine : Obligations.InterruptEnablesDriveTheLine := by
  refine ⟨fun d => ⟨?_, ?_, ?_, ?_⟩, fun s => ⟨rfl, rfl⟩, fun v s => ⟨rfl, rfl⟩, fun s => ?_⟩
  · exact decodeBus_encodeBus Layout.default false .intEn1 d
  · exact decodeBus_encodeBus Layout.default true .intEn1 d
  · exact decodeBus_encodeBus Layout.default false .intEn2 d
  · exact decodeBus_encodeBus Layout.default true .intEn2 d
  · rw [irqLine_iff, idleFlag_iff, wffFlag_iff, wfeFlag_iff, rffFlag_iff, rfeFlag_iff, or_comm (a := s.ctl.pd = true)]
    exact Iff.rfl

/-- Settles O10: a register operation is one access, and an access touches the controller and its records alone. -/
theorem registerOperationsAlwaysComplete : Obligations.RegisterOperationsAlwaysComplete := by
  intro i s reg
  obtain ⟨r, rfl⟩ | ⟨r, v, rfl⟩ := eq_access_of_isRegister reg
  · refine ⟨_, exec_readInstr r s, (regRead_outside .host r s).trans ?_, ⟨_, regRead_history .host r s⟩, ?_, ?_⟩
    · rw [regRead_history, regRead_rdata]
    · exact .inl (by rw [regRead_ctl])
    · exact .inl (by rw [regRead_ctl])
  · refine ⟨_, exec_writeInstr r v s, (regWrite_outside .host r v s).trans ?_, ⟨_, regWrite_history .host r v s⟩, ?_⟩
    · rw [regWrite_history, regWrite_rdata]
    · by_cases h1 : r = .intEn1
      · subst h1; exact ⟨.inr ⟨v, rfl⟩, .inl rfl⟩
      · by_cases h2 : r = .intEn2
        · subst h2; exact ⟨.inl rfl, .inr ⟨v, rfl⟩⟩
        · obtain ⟨e1, e2⟩ := writeReg_intEn r v s h1 h2
          exact ⟨.inl e1.symm, .inl e2.symm⟩

end Sys2Proof.Machine
end

section
/-! PROOF. The agents beside the engine (48_controller_agent.md R205 to R213, 44_completion_waiter.md R143), one move a lemma, and power-on reset (10_state.md R34). -/

namespace Sys2Proof.Machine

/-! When CTL may step (R205). -/

theorem ctlGate_iff (k : Controller) : ctlGate k = true ↔ k.pd = false ∧ k.rst = false ∧ k.frst = false := by
  simp [ctlGate, and_assoc]

theorem ctlGate_eq_false_iff (k : Controller) :
    ctlGate k = false ↔ k.pd = true ∨ k.rst = true ∨ k.frst = true := by
  rw [← Bool.not_eq_true, ctlGate_iff]
  cases k.pd <;> cases k.rst <;> cases k.frst <;> simp

theorem framing_iff (k : Controller) : framing k = true ↔ ctlGate k = true ∧ k.frame.active = true := by
  simp [framing]

theorem framing_of_running {s : State} (run : Running s) (active : s.ctl.frame.active = true) :
    framing s.ctl = true :=
  (framing_iff _).mpr ⟨(ctlGate_iff _).mpr run, active⟩

theorem transmitting_of_running {s : State} (run : Running s)
    (frame : s.ctl.frame = { active := true, eofDone := false }) : transmitting s.ctl = true := by
  simp [transmitting, (ctlGate_iff _).mpr run, frame]

/-! The moves of CTL and ENV that are enabled. -/

theorem ctlStart_enabled {s : State} (run : Running s) (txen : s.ctl.txen = true)
    (noFrame : s.ctl.frame.active = false) :
    ctlStart s = { s with
      ctl := { s.ctl with frame := { active := true, eofDone := false }, invalidated := false }, busIdle := false } := by
  simp [ctlStart, (ctlGate_iff _).mpr run, txen, noFrame]

theorem ctlTx_enabled {s : State} {b : Byte} {q : List Byte} (run : Running s)
    (frame : s.ctl.frame = { active := true, eofDone := false }) (wfifo : s.ctl.wfifo = b :: q) :
    ctlTx s = { s with ctl := { s.ctl with wfifo := q }, history := .wireTx b :: s.history } := by
  simp [ctlTx, transmitting_of_running run frame, wfifo, record]

theorem ctlUnderrun_enabled {s : State} (run : Running s)
    (frame : s.ctl.frame = { active := true, eofDone := false }) (wfifo : s.ctl.wfifo = []) :
    ctlUnderrun s = { s with ctl := { s.ctl with error := s.ctl.error ||| bit s.cfg.layout.wbur } } := by
  simp [ctlUnderrun, transmitting_of_running run frame, wfifo]

theorem ctlEof_enabled {s : State} (run : Running s)
    (frame : s.ctl.frame = { active := true, eofDone := false }) :
    ctlEof s = { s with
      ctl := { s.ctl with eof := true, txen := false, frame := { active := true, eofDone := true } } } := by
  simp [ctlEof, transmitting_of_running run frame]

theorem ctlEnd_enabled {s : State} (run : Running s)
    (frame : s.ctl.frame = { active := true, eofDone := true }) :
    ctlEnd s = { s with
      ctl := { s.ctl with frame := { active := false, eofDone := true }, invalidated := false } } := by
  simp [ctlEnd, framing_of_running run (by rw [frame]), frame]

theorem ctlRx_stored {s : State} (b : Byte) (run : Running s) (active : s.ctl.frame.active = true)
    (room : s.ctl.rfifo.length < s.cfg.rfifoDepth) :
    ctlRx b s = { s with ctl := { s.ctl with rfifo := s.ctl.rfifo ++ [b] }, history := .wireRx b :: s.history } := by
  simp [ctlRx, framing_of_running run active, room, record]

theorem ctlRx_overrun {s : State} (b : Byte) (run : Running s) (active : s.ctl.frame.active = true)
    (full : s.cfg.rfifoDepth ≤ s.ctl.rfifo.length) :
    ctlRx b s = { s with
      ctl := { s.ctl with error := s.ctl.error ||| bit s.cfg.layout.rbor }, history := .wireRx b :: s.history } := by
  simp [ctlRx, framing_of_running run active, Nat.not_lt.mpr full, record]

theorem ctlErr_enabled {s : State} {m : Byte} (run : Running s) (active : s.ctl.frame.active = true)
    (rbor : hasBit m s.cfg.layout.rbor = false) (wbur : hasBit m s.cfg.layout.wbur = false) :
    ctlErr m s = { s with ctl := { s.ctl with error := s.ctl.error ||| m } } := by
  simp [ctlErr, framing_of_running run active, rbor, wbur]

theorem envBus_enabled {s : State} (v : Bool) (noFrame : s.ctl.frame.active = false) :
    envBus v s = { s with busIdle := v } := by
  simp [envBus, noFrame]

theorem envErr_enabled {s : State} (m : Byte) (run : Running s) (active : s.ctl.frame.active = true)
    (invalidated : s.ctl.invalidated = true) :
    envErr m s = { s with ctl := { s.ctl with error := s.ctl.error ||| m } } := by
  simp [envErr, framing_of_running run active, invalidated]

/-- Settles O46: each move as one step, by its lemma. -/
theorem frameMovesTakeTheirEffect : Obligations.FrameMovesTakeTheirEffect := by
  intro s rest
  refine ⟨fun run txen noFrame => ?_, fun b q run frame wfifo => ?_, fun run frame => ?_, fun run frame => ?_,
    fun v noFrame => ?_, fun m run active inv => ?_, fun bytes w idle empty => ⟨?_, ?_⟩,
    fun bytes w busy => ⟨?_, ?_⟩⟩ <;> refine (step_other Turn.noConfusion s rest).trans (congrArg _ ?_)
  · exact ctlStart_enabled (s := { s with turns := rest }) run txen noFrame
  · exact ctlTx_enabled (s := { s with turns := rest }) run frame wfifo
  · exact ctlEof_enabled (s := { s with turns := rest }) run frame
  · exact ctlEnd_enabled (s := { s with turns := rest }) run frame
  · exact envBus_enabled (s := { s with turns := rest }) v noFrame
  · exact envErr_enabled (s := { s with turns := rest }) m run active inv
  · exact offer_taken (s := { s with turns := rest }) _ idle empty
  · exact offer_taken (s := { s with turns := rest }) _ idle empty
  · exact offer_refused (s := { s with turns := rest }) _ busy
  · exact offer_refused (s := { s with turns := rest }) _ busy

/-- Settles O47: each move as one step, by its lemma. -/
theorem receiveAndErrorMovesTakeTheirEffect : Obligations.ReceiveAndErrorMovesTakeTheirEffect := by
  intro s rest
  refine ⟨fun run frame wfifo => ?_, fun b run active room => ?_, fun b run active full => ?_,
    fun m run active rbor wbur => ?_⟩ <;> refine (step_other Turn.noConfusion s rest).trans (congrArg _ ?_)
  · exact ctlUnderrun_enabled (s := { s with turns := rest }) run frame wfifo
  · exact ctlRx_stored (s := { s with turns := rest }) b run active room
  · exact ctlRx_overrun (s := { s with turns := rest }) b run active full
  · exact ctlErr_enabled (s := { s with turns := rest }) run active rbor wbur

/-! The moves that are not enabled. -/

theorem transmitting_eq_false {k : Controller} (h : framing k = false ∨ k.frame.eofDone = true) :
    transmitting k = false := by
  unfold transmitting
  obtain h | h := h
  · rw [framing] at h; rw [h]; rfl
  · rw [h, Bool.not_true, Bool.and_false]

theorem ctlStart_gated {s : State}
    (h : ctlGate s.ctl = false ∨ s.ctl.txen = false ∨ s.ctl.frame.active = true) : ctlStart s = s :=
  if_neg (by rcases h with h | h | h <;> simp [h])

theorem ctlTx_gated {s : State} (h : transmitting s.ctl = false ∨ s.ctl.wfifo = []) : ctlTx s = s := by
  unfold ctlTx; split
  case isTrue moving =>
    obtain h | h := h
    · rw [h] at moving; cases moving
    · rw [h]
  case isFalse => rfl

theorem ctlUnderrun_gated {s : State} (h : transmitting s.ctl = false ∨ s.ctl.wfifo ≠ []) : ctlUnderrun s = s :=
  if_neg (by rcases h with h | h <;> simp [h])

theorem ctlEof_gated {s : State} (h : transmitting s.ctl = false) : ctlEof s = s := if_neg (by simp [h])

theorem ctlEnd_gated {s : State} (h : framing s.ctl = false ∨ s.ctl.frame.eofDone = false) : ctlEnd s = s :=
  if_neg (by rcases h with h | h <;> simp [h])

theorem ctlRx_gated {s : State} (b : Byte) (h : framing s.ctl = false) : ctlRx b s = s := if_neg (by simp [h])

theorem ctlErr_gated {s : State} {m : Byte} (h : framing s.ctl = false ∨
    hasBit m s.cfg.layout.rbor = true ∨ hasBit m s.cfg.layout.wbur = true) : ctlErr m s = s :=
  if_neg (by rcases h with h | h | h <;> simp [h])

theorem envBus_gated {s : State} (v : Bool) (h : s.ctl.frame.active = true) : envBus v s = s := if_pos h

theorem envErr_gated {s : State} (m : Byte) (h : framing s.ctl = false ∨ s.ctl.invalidated = false) :
    envErr m s = s :=
  if_neg (by rcases h with h | h <;> simp [h])

/-- Without a running controller, and outside a frame, CTL may at most start one. -/
theorem frameMove_gated {m : Turn} {s : State} (h : isFrameMove m = true) (start : m ≠ .ctlStart)
    (out : framing s.ctl = false) : agentStep m s = s := by
  cases m with
  | ctlStart => exact absurd rfl start
  | ctlTx => exact ctlTx_gated (.inl (transmitting_eq_false (.inl out)))
  | ctlUnderrun => exact ctlUnderrun_gated (.inl (transmitting_eq_false (.inl out)))
  | ctlEof => exact ctlEof_gated (transmitting_eq_false (.inl out))
  | ctlEnd => exact ctlEnd_gated (.inl out)
  | ctlRx b => exact ctlRx_gated b out
  | ctlErr e => exact ctlErr_gated (.inl out)
  | _ => cases h

theorem framing_eq_false_iff (k : Controller) :
    framing k = false ↔ ctlGate k = false ∨ k.frame.active = false := by
  cases h : ctlGate k <;> simp [framing, h]

/-- Settles O49: each of the listed moves fails the test of its own lemma. -/
theorem frameMovesAreGated : Obligations.FrameMovesAreGated := by
  intro s m rest h
  have unmoved : m ≠ .eng ∧ agentStep m { s with turns := rest } = { s with turns := rest } := by
    rcases h with ⟨frameMove, off⟩ | ⟨rfl, off⟩ | ⟨move, done⟩ | ⟨rfl, empty⟩ | ⟨rfl, filled⟩ | ⟨rfl, before⟩ |
      ⟨e, rfl, named⟩ | ⟨v, rfl, active⟩ | ⟨e, rfl, off⟩
    · refine ⟨fun eng => ?_, ?_⟩
      · rw [eng] at frameMove; cases frameMove
      have gate := ctlGate_eq_false_iff s.ctl
      by_cases start : m = .ctlStart
      · rw [start]
        exact ctlStart_gated (.inl (gate.mpr (by tauto)))
      · exact frameMove_gated frameMove start ((framing_eq_false_iff s.ctl).mpr (by tauto))
    · exact ⟨Turn.noConfusion, ctlStart_gated (.inr off)⟩
    · have ended := transmitting_eq_false (k := s.ctl) (.inr done)
      rcases move with rfl | rfl | rfl
      · exact ⟨Turn.noConfusion, ctlTx_gated (.inl ended)⟩
      · exact ⟨Turn.noConfusion, ctlUnderrun_gated (.inl ended)⟩
      · exact ⟨Turn.noConfusion, ctlEof_gated ended⟩
    · exact ⟨Turn.noConfusion, ctlTx_gated (.inr empty)⟩
    · exact ⟨Turn.noConfusion, ctlUnderrun_gated (.inr filled)⟩
    · exact ⟨Turn.noConfusion, ctlEnd_gated (.inr before)⟩
    · exact ⟨Turn.noConfusion, ctlErr_gated (.inr named)⟩
    · exact ⟨Turn.noConfusion, envBus_gated v active⟩
    · have gate := ctlGate_eq_false_iff s.ctl
      have frame := framing_eq_false_iff s.ctl
      exact ⟨Turn.noConfusion, envErr_gated e (show framing s.ctl = false ∨ s.ctl.invalidated = false by tauto)⟩
  rw [step_other unmoved.1, unmoved.2]

/-! What the wire side never does (R213). -/

/-- What a move of CTL or ENV leaves of the rest of the machine. -/
structure WireMove (a b : State) : Prop where
  turns : b.turns = a.turns
  sig : b.sig = a.sig
  isr : b.isr = a.isr
  port : b.port = a.port
  wfifo : ∃ q, a.ctl.wfifo = q ++ b.ctl.wfifo
  rfifo : ∃ q, b.ctl.rfifo = a.ctl.rfifo ++ q
  eof : a.ctl.eof = true → b.ctl.eof = true
  error : a.ctl.error &&& b.ctl.error = a.ctl.error
  txen : b.ctl.txen = true → a.ctl.txen = true

theorem WireMove.rfl (s : State) : WireMove s s :=
  ⟨.refl _, .refl _, .refl _, .refl _, ⟨[], .refl _⟩, ⟨[], (List.append_nil _).symm⟩, id, BitVec.and_self, id⟩

theorem and_or_self_left (e m : Byte) : e &&& (e ||| m) = e :=
  byte_ext fun p => by rw [hasBit_and, hasBit_or]; cases hasBit e p <;> rfl

/-- Error bits are added, nothing else. -/
theorem WireMove.addError (s : State) (m : Byte) :
    WireMove s { s with ctl := { s.ctl with error := s.ctl.error ||| m } } :=
  ⟨.refl _, .refl _, .refl _, .refl _, ⟨[], .refl _⟩, ⟨[], (List.append_nil _).symm⟩, id, and_or_self_left _ _, id⟩

theorem agentStep_wireMove {m : Turn} (h : isFrameMove m = true ∨ (∃ v, m = .envBus v) ∨ (∃ e, m = .envErr e))
    (s : State) : WireMove s (agentStep m s) := by
  cases m with
  | ctlStart =>
    simp only [agentStep, ctlStart]; split
    · exact ⟨.refl _, .refl _, .refl _, .refl _, ⟨[], .refl _⟩, ⟨[], (List.append_nil _).symm⟩, id, BitVec.and_self, id⟩
    · exact .rfl s
  | ctlTx =>
    simp only [agentStep, ctlTx]; split
    · split
      next b q wfifo =>
        exact ⟨.refl _, .refl _, .refl _, .refl _, ⟨[b], wfifo⟩, ⟨[], (List.append_nil _).symm⟩, id, BitVec.and_self, id⟩
      next => exact .rfl s
    · exact .rfl s
  | ctlUnderrun =>
    simp only [agentStep, ctlUnderrun]; split
    · exact .addError s _
    · exact .rfl s
  | ctlEof =>
    simp only [agentStep, ctlEof]; split
    · exact ⟨.refl _, .refl _, .refl _, .refl _, ⟨[], .refl _⟩, ⟨[], (List.append_nil _).symm⟩, fun _ => .refl _,
        BitVec.and_self, fun h => by cases h⟩
    · exact .rfl s
  | ctlEnd =>
    simp only [agentStep, ctlEnd]; split
    · exact ⟨.refl _, .refl _, .refl _, .refl _, ⟨[], .refl _⟩, ⟨[], (List.append_nil _).symm⟩, id, BitVec.and_self, id⟩
    · exact .rfl s
  | ctlRx b =>
    simp only [agentStep, ctlRx]; split
    · split
      · exact ⟨.refl _, .refl _, .refl _, .refl _, ⟨[], .refl _⟩, ⟨[b], .refl _⟩, id, BitVec.and_self, id⟩
      · obtain ⟨h1, h2, h3, h4, h5, h6, h7, h8, h9⟩ := WireMove.addError s (bit s.cfg.layout.rbor)
        exact ⟨h1, h2, h3, h4, h5, h6, h7, h8, h9⟩
    · exact .rfl s
  | ctlErr e =>
    simp only [agentStep, ctlErr]; split
    · exact .addError s e
    · exact .rfl s
  | envBus v =>
    simp only [agentStep, envBus]; split
    · exact .rfl s
    · exact ⟨.refl _, .refl _, .refl _, .refl _, ⟨[], .refl _⟩, ⟨[], (List.append_nil _).symm⟩, id, BitVec.and_self, id⟩
  | envErr e =>
    simp only [agentStep, envErr]; split
    · exact .addError s e
    · exact .rfl s
  | eng | expire | isr | host | platform => simp [isFrameMove] at h

/-- Settles O50: the software side by the frame lemma of all agents, the rest move by move. -/
theorem wireSideNeverDoes : Obligations.WireSideNeverDoes := by
  intro s t m rest wire turns ht
  have other : m ≠ .eng := by rintro rfl; simp [isFrameMove] at wire
  have start : s = { s with turns := m :: rest } := by rw [← turns]
  rw [start, step_other other] at ht
  cases ht
  obtain ⟨turns', sig, isr, port, wfifo, rfifo, eof, error, txen⟩ := agentStep_wireMove wire { s with turns := rest }
  have same := agentStep_same m { s with turns := rest }
  exact ⟨turns', same.eng, sig, same.irqMask, isr, port, same.results, same.cfg, wfifo, rfifo, eof, error, txen,
    same.pd, same.rst, same.frst, same.btLow, same.btHigh, same.intEn1, same.intEn2⟩

/-! The handler (R29, R143). -/

theorem irqEnabled_eq_false {s : State} (h : s.cfg.mode = .polled ∨ irqLine s = false ∨ s.irqMask = true) :
    irqEnabled s = false := by
  unfold irqEnabled
  rcases h with h | h | h <;> simp [h]

theorem irqEnabled_of {s : State} (mode : s.cfg.mode = .event) (line : irqLine s = true) (mask : s.irqMask = false) :
    irqEnabled s = true := by
  simp [irqEnabled, mode, line, mask]

theorem isrStep_disabled {s : State} (h : irqEnabled s = false) : isrStep s = s := if_neg (by simp [h])
theorem isrStep_enabled {s : State} (h : irqEnabled s = true) : isrStep s = handlerStep s := if_pos h

theorem handlerH4_eq (s : State) : handlerH4 s = { s with
    isr := { s.isr with next := .h5 }, sig := s.sig || hasBit s.isr.s2 s.cfg.layout.wfe } := by
  unfold handlerH4
  cases h : hasBit s.isr.s2 s.cfg.layout.wfe <;> simp [post]

theorem handlerH5_eq (s : State) : handlerH5 s = { s with
    isr := { s.isr with next := .h0 }, sig := s.sig || (s.cfg.postOnRff && hasBit s.isr.s2 s.cfg.layout.rff) } := by
  unfold handlerH5
  cases h : s.cfg.postOnRff && hasBit s.isr.s2 s.cfg.layout.rff <;> simp [post]

/-- Settles O48: a turn that R29 does not allow changes nothing, else it is the step at which the handler stands. -/
theorem handlerTurnsTakeTheirEffect : Obligations.HandlerTurnsTakeTheirEffect := by
  intro s rest
  let r : State := { s with turns := rest }
  refine ⟨fun off => ?_, fun mode line mask => ?_⟩
  · refine (step_other Turn.noConfusion s rest).trans (congrArg _ ?_)
    exact isrStep_disabled (s := r) (irqEnabled_eq_false (s := r) off)
  have enabled : isrStep r = handlerStep r := isrStep_enabled (irqEnabled_of (s := r) mode line mask)
  have turn {next : HandlerStep} (h : s.isr.next = next) {u : State} (hu : handlerStep { r with isr := { s.isr with next := next } } = u) :
      step { s with turns := .isr :: rest } = .next u := by
    refine (step_other Turn.noConfusion s rest).trans (congrArg _ (enabled.trans ?_))
    subst h; exact hu
  refine ⟨fun h => turn h rfl, fun h => turn h rfl, fun h => turn h rfl, fun h => turn h rfl,
    fun h => turn h (handlerH4_eq _), fun h => turn h (handlerH5_eq _)⟩

/-- Settles O24: the handler tests R29 before its first step. -/
theorem handlerIsNotEnteredWhenDisabled : Obligations.HandlerIsNotEnteredWhenDisabled := by
  intro s off
  have disabled := irqEnabled_eq_false off
  exact congrArg _ (if_pos (by rw [disabled]; rfl))

/-- `STATUS2` depends on the parameters, `PD`, the FIFOs and the wire alone. -/
theorem status2Byte_congr {a b : State} (cfg : b.cfg = a.cfg) (pd : b.ctl.pd = a.ctl.pd)
    (wfifo : b.ctl.wfifo = a.ctl.wfifo) (rfifo : b.ctl.rfifo = a.ctl.rfifo) (wire : b.busIdle = a.busIdle) :
    status2Byte b = status2Byte a := by
  simp [status2Byte, rfeFlag, rffFlag, wfeFlag, wffFlag, idleFlag, cfg, pd, wfifo, rfifo, wire]

/-- The line and its mask depend on the parameters, the controller, the wire and the mask bit alone. -/
theorem irqEnabled_congr {a b : State} (cfg : b.cfg = a.cfg) (ctl : b.ctl = a.ctl) (wire : b.busIdle = a.busIdle)
    (mask : b.irqMask = a.irqMask) : irqEnabled b = irqEnabled a := by
  have status2 : status2Byte b = status2Byte a :=
    status2Byte_congr cfg (congrArg _ ctl) (congrArg _ ctl) (congrArg _ ctl) wire
  simp [irqEnabled, irqLine, status2, cfg, ctl, mask]

theorem handlerH0_eq (s : State) : handlerH0 s = { s with
    isr := { s.isr with next := .h1, e := s.ctl.error }, rdata := s.ctl.error
    history := .rd .isr .error s.ctl.error :: s.history } := rfl

theorem handlerH1_eq (s : State) : handlerH1 s = { s with
    isr := { s.isr with next := .h2, s1 := status1Byte s.cfg.layout s.ctl }, rdata := status1Byte s.cfg.layout s.ctl
    history := .rd .isr .status1 (status1Byte s.cfg.layout s.ctl) :: s.history } := rfl

theorem handlerH2_eq (s : State) : handlerH2 s = { s with
    isr := { s.isr with next := .h3, s2 := status2Byte s }, rdata := status2Byte s
    history := .rd .isr .status2 (status2Byte s) :: s.history } := rfl

theorem handlerH3_eq (s : State) : handlerH3 s = { s with
    isr := { s.isr with next := .h4 }, ctl := { s.ctl with eof := s.ctl.eof && !hasBit s.isr.s1 s.cfg.layout.eof }
    history := .wr .isr .status1 s.isr.s1 :: s.history } := rfl

@[simp] theorem handlerH0_turns (s : State) : (handlerH0 s).turns = s.turns := by simp [handlerH0]
@[simp] theorem handlerH1_turns (s : State) : (handlerH1 s).turns = s.turns := by simp [handlerH1]
@[simp] theorem handlerH2_turns (s : State) : (handlerH2 s).turns = s.turns := by simp [handlerH2]
@[simp] theorem handlerH3_turns (s : State) : (handlerH3 s).turns = s.turns := by simp [handlerH3]

/-- One step of a handler that goes on, nobody else moving. -/
theorem handlerRun_step {s u : State} (k : Nat) (enabled : irqEnabled s = true) (takes : handlerStep s = u)
    (quiet : u.turns = []) (on : u.isr.next ≠ .h0) : handlerRun (k + 1) s = handlerRun k u := by
  rw [handlerRun, enabled, isrStep_enabled enabled, takes, others_quiet quiet, if_neg on, if_neg on]
  rfl

/-- The handler's last step. -/
theorem handlerRun_last {s : State} (k : Nat) (enabled : irqEnabled s = true)
    (ends : (handlerStep s).isr.next = .h0) : handlerRun (k + 1) s = handlerStep s := by
  rw [handlerRun, enabled, isrStep_enabled enabled, if_pos ends]
  rfl

/-- A handler whose line has fallen stays. -/
theorem handlerRun_stays {s : State} (k : Nat) (disabled : irqEnabled s = false) : handlerRun k s = s := by
  cases k with
  | zero => rfl
  | succ k => rw [handlerRun, disabled]; rfl

/-- With `EOF` clear the line is `STATUS2` alone. -/
theorem irqLine_of_eof_clear {s : State} (h : s.ctl.eof = false) :
    irqLine s = ((status2Byte s &&& s.ctl.intEn2) != 0) := by
  simp [irqLine, status1Byte, h, flag]

/-- The handler after H0 to H3. -/
def handlerCleared (s : State) : State := handlerH3 (handlerH2 (handlerH1 (handlerH0 s)))

/-- Three reads and the clear of `STATUS1` with the value just read, which leaves `EOF` 0. -/
theorem handlerCleared_eq (s : State) : handlerCleared s = { s with
    isr := { next := .h4, e := s.ctl.error, s1 := status1Byte s.cfg.layout s.ctl, s2 := status2Byte s }
    ctl := { s.ctl with eof := false }, rdata := status2Byte s
    history := [.wr .isr .status1 (status1Byte s.cfg.layout s.ctl), .rd .isr .status2 (status2Byte s),
      .rd .isr .status1 (status1Byte s.cfg.layout s.ctl), .rd .isr .error s.ctl.error] ++ s.history } := by
  have verbatim : (s.ctl.eof && !hasBit (status1Byte s.cfg.layout s.ctl) s.cfg.layout.eof) = false := by
    rw [hasBit_status1Byte_eof, Bool.and_not_self]
  have status2 : status2Byte (handlerH1 (handlerH0 s)) = status2Byte s := by
    rw [handlerH0_eq, handlerH1_eq]; exact status2Byte_congr rfl rfl rfl rfl rfl
  rw [handlerCleared, handlerH2_eq, status2, handlerH3_eq, handlerH1_eq, handlerH0_eq]
  simp only [verbatim]; rfl

/-- The clear of `EOF` does not show in `STATUS2`. -/
theorem handlerCleared_status2 (s : State) : status2Byte (handlerCleared s) = status2Byte s := by
  rw [handlerCleared_eq]; exact status2Byte_congr rfl rfl rfl rfl rfl

/-- H0 to H3 leave the line as it was, so they run to the end once the first may. -/
theorem handlerRun_cleared {s : State} (quiet : Quiet s) (start : s.isr.next = .h0) (enabled : irqEnabled s = true) :
    handlerRun 6 s = handlerRun 2 (handlerCleared s) := by
  have h0 : handlerStep s = handlerH0 s := by rw [handlerStep, start]
  have enabled1 : irqEnabled (handlerH0 s) = true := (irqEnabled_congr rfl rfl rfl rfl).trans enabled
  have enabled2 : irqEnabled (handlerH1 (handlerH0 s)) = true := (irqEnabled_congr rfl rfl rfl rfl).trans enabled1
  have enabled3 : irqEnabled (handlerH2 (handlerH1 (handlerH0 s))) = true :=
    (irqEnabled_congr rfl rfl rfl rfl).trans enabled2
  rw [handlerRun_step 5 enabled h0 (by simp [quiet]) HandlerStep.noConfusion,
    handlerRun_step (u := handlerH1 (handlerH0 s)) 4 enabled1 rfl (by simp [quiet]) HandlerStep.noConfusion,
    handlerRun_step (u := handlerH2 (handlerH1 (handlerH0 s))) 3 enabled2 rfl (by simp [quiet]) HandlerStep.noConfusion,
    handlerRun_step (u := handlerCleared s) 2 enabled3 rfl (by simp [handlerCleared, quiet]) HandlerStep.noConfusion]

/-- The two posts of a handler whose line is still up. -/
theorem handlerRun_posts {s : State} (quiet : Quiet s) (at4 : s.isr.next = .h4) (enabled : irqEnabled s = true) :
    handlerRun 2 s = { s with
      isr := { s.isr with next := .h0 }
      sig := s.sig || hasBit s.isr.s2 s.cfg.layout.wfe || (s.cfg.postOnRff && hasBit s.isr.s2 s.cfg.layout.rff) } := by
  have h4 : handlerStep s = { s with
      isr := { s.isr with next := .h5 }, sig := s.sig || hasBit s.isr.s2 s.cfg.layout.wfe } := by
    rw [handlerStep, at4]; exact handlerH4_eq s
  rw [handlerRun_step 1 enabled h4 quiet HandlerStep.noConfusion]
  refine (handlerRun_last 0 (s := { s with isr := { s.isr with next := .h5 }, sig := _ }) enabled ?_).trans ?_
  · exact congrArg (fun t => t.isr.next) (handlerH5_eq _)
  · exact handlerH5_eq _

/-- Settles O23: H0 to H3 in one, then the line decides whether the two posts follow. -/
theorem handlerClearsStatusAndPosts : Obligations.HandlerClearsStatusAndPosts := by
  intro s quiet start mode line mask
  have run : exec .irqHandler s = .next (handlerRun 2 (handlerCleared s)) :=
    congrArg _ (handlerRun_cleared quiet start (irqEnabled_of mode line mask))
  have up : irqLine (handlerCleared s) = ((status2Byte s &&& s.ctl.intEn2) != 0) := by
    rw [irqLine_of_eof_clear (by rw [handlerCleared_eq]), handlerCleared_status2, handlerCleared_eq]
  have mode' : (handlerCleared s).cfg.mode = .event := by rw [handlerCleared_eq]; exact mode
  have mask' : (handlerCleared s).irqMask = false := by rw [handlerCleared_eq]; exact mask
  by_cases still : status2Byte s &&& s.ctl.intEn2 = 0
  · have down : irqEnabled (handlerCleared s) = false :=
      irqEnabled_eq_false (.inr (.inl (by rw [up, still]; rfl)))
    rw [handlerRun_stays 2 down, handlerCleared_eq] at run
    exact ⟨_, run, rfl, rfl, fun h => absurd still h, fun _ => ⟨rfl, rfl⟩, rfl, rfl, rfl, rfl, rfl⟩
  · have enabled : irqEnabled (handlerCleared s) = true :=
      irqEnabled_of mode' (by rw [up, bne_iff_ne]; exact still) mask'
    rw [handlerRun_posts (by rw [handlerCleared_eq]; exact quiet) (by rw [handlerCleared_eq]) enabled,
      handlerCleared_eq] at run
    refine ⟨_, run, rfl, rfl, fun _ => ⟨rfl, ?_⟩, fun h => absurd h still, rfl, rfl, rfl, rfl, rfl⟩
    change (s.sig || hasBit (status2Byte s) s.cfg.layout.wfe ||
      (s.cfg.postOnRff && hasBit (status2Byte s) s.cfg.layout.rff)) = true ↔ _
    rw [hasBit_status2Byte_wfe, hasBit_status2Byte_rff, Bool.or_eq_true, Bool.or_eq_true, Bool.and_eq_true,
      wfeFlag_iff, rffFlag_iff, or_assoc]

/-! Power-on reset. -/

/-- An empty FIFO of a depth of at least 1 is not full. -/
theorem powerOn_status2 (p : Params) (hw : 1 ≤ p.wfifoDepth) (hr : 1 ≤ p.rfifoDepth) :
    status2Byte (State.powerOn p) = bit p.layout.idle ||| bit p.layout.wfe ||| bit p.layout.rfe := by
  have wff : wffFlag (State.powerOn p) = false := beq_false_of_ne (Nat.ne_of_lt hw)
  have rff : rffFlag (State.powerOn p) = false := beq_false_of_ne (Nat.ne_of_lt hr)
  have idle : idleFlag (State.powerOn p) = true := rfl
  have wfe : wfeFlag (State.powerOn p) = true := rfl
  have rfe : rfeFlag (State.powerOn p) = true := rfl
  rw [status2Byte, wff, rff, idle, wfe, rfe]
  refine byte_ext fun q => ?_
  simp only [hasBit_or, hasBit_flag, hasBit_bit, State.powerOn, Bool.true_and, Bool.false_and, Bool.or_false]
  rw [Bool.or_comm, Bool.or_comm (decide (p.layout.rfe = q)), Bool.or_assoc]

/-- Settles O51: the fields of the reset state by definition, `STATUS2` by its flags. -/
theorem powerOnResetState : Obligations.PowerOnResetState := by
  intro p
  refine ⟨rfl, rfl, rfl, rfl, rfl, ?_, rfl, rfl, rfl, rfl, rfl, rfl, rfl, powerOn_status2 p, rfl, by decide, by decide⟩
  change (0 ||| 0 ||| 0 ||| bit p.layout.pd : Byte) = bit p.layout.pd
  rw [BitVec.or_self, BitVec.or_self]; exact BitVec.zero_or

/-- Settles O52: at reset the FIFOs are empty, no frame is active, no bitrate is stored and the line is masked. -/
theorem powerOnResetMeetsTheInvariant : Obligations.PowerOnResetMeetsTheInvariant := by
  intro p
  refine ⟨⟨Nat.zero_le _, Nat.zero_le _, fun _ => ⟨rfl, rfl, rfl, rfl⟩, fun h => ?_, fun h => ?_, .inl rfl,
    fun _ => ⟨rfl, rfl, rfl⟩⟩, rfl, rfl⟩
  · cases h
  · cases h

end Sys2Proof.Machine
end

section
/-! PROOF. What an operation is made of: one relation, `Path`, lists the kinds of atomic steps between two states, the other agents' moves among them (00_scope.md R5). One lemma an operation says which kinds it uses; every frame fact and the invariant are then one induction over paths. -/

namespace Sys2Proof.Machine

/-- The kinds of atomic steps beside the engine's internal work and the other agents' moves. -/
inductive Kind where
  | read (r : Reg)
  | write (r : Reg)
  | delay
  | log
  | take
  | respond
  | count
  | bitrate
  | request
  | mask
  | put
  | forget
  deriving DecidableEq

/-- The state without the engine's internal registers, `phase` and `RES`. -/
def shared (s : State) : State :=
  { s with eng := { Engine.reset with
      bitrate := s.eng.bitrate, tocnt := s.eng.tocnt, req := s.eng.req, rsp := s.eng.rsp, calls := s.eng.calls } }

/-- One atomic step of a kind. A stored bitrate is an admitted one (10_state.md R13). -/
def Does : Kind → State → State → Prop
  | .read r, s, t => t = regRead .eng r s
  | .write r, s, t => ∃ v, t = regWrite .eng r v s
  | .delay, s, t => ∃ n, t = record (.delayUs n) s ∨ t = record (.sleepMs n) s
  | .log, s, t => ∃ x, t = logRecord x s
  | .take, s, t => t = { s with sig := false }
  | .respond, s, t => ∃ r, t = { s with eng := { s.eng with rsp := r } }
  | .count, s, t => ∃ n, t = putTimeouts n s
  | .bitrate, s, t => ∃ br, validBitrate s.cfg br = true ∧ t = { s with eng := { s.eng with bitrate := br } }
  | .request, s, t => ∃ r, t = latchRequest r s
  | .mask, s, t => ∃ v, t = setIrqMask v s
  | .put, s, t => ∃ bytes, t = putResult bytes s
  | .forget, s, t => t = forgetResponse s

/-- From one state to another by internal work of the engine, moves of the other agents, calls that return, and steps of the given kinds. -/
inductive Path (K : List Kind) : State → State → Prop
  | refl (s : State) : Path K s s
  | trans {s t u : State} (h : Path K s t) (k : Path K t u) : Path K s u
  | work {s t : State} (h : shared t = shared s) : Path K s t
  | agent (m : Turn) (s : State) : Path K s (agentStep m s)
  | turns (l : List Turn) (s : State) : Path K s { s with turns := l }
  | does {k : Kind} {s t : State} (mem : k ∈ K) (h : Does k s t) : Path K s t
  | call (c : CallSite) {s t : State} (h : Path K (enter c s) t) : Path K s (leave c t)

namespace Path

variable {K : List Kind} {s t : State}

/-- Internal work that ends in a given state. -/
theorem edit (s t : State) (h : shared t = shared s) : Path K s t := .work h

/-- More kinds allow more paths. -/
theorem mono {L : List Kind} (h : Path K s t) (sub : K ⊆ L) : Path L s t := by
  induction h with
  | refl s => exact .refl s
  | trans _ _ ih ih' => exact ih.trans ih'
  | work h => exact .work h
  | agent m s => exact .agent m s
  | turns l s => exact .turns l s
  | does mem h => exact .does (sub mem) h
  | call c _ ih => exact .call c ih

/-- A reflexive and transitive relation that every atomic step, call and return has holds along every path. -/
theorem lift {R : State → State → Prop} (refl : ∀ s, R s s) (trans : ∀ s t u, R s t → R t u → R s u)
    (work : ∀ s t, shared t = shared s → R s t) (agent : ∀ m s, R s (agentStep m s))
    (turns : ∀ l s, R s { s with turns := l }) (does : ∀ k ∈ K, ∀ s t, Does k s t → R s t)
    (enter : ∀ c s, R s (enter c s)) (leave : ∀ c s, R s (leave c s)) (h : Path K s t) : R s t := by
  induction h with
  | refl s => exact refl s
  | trans _ _ ih ih' => exact trans _ _ _ ih ih'
  | work h => exact work _ _ h
  | agent m s => exact agent m s
  | turns l s => exact turns l s
  | does mem h => exact does _ mem _ _ h
  | call c _ ih => exact trans _ _ _ (enter c _) (trans _ _ _ ih (leave c _))

/-- A part of the state that no atomic step of the kinds writes is kept. -/
theorem keeps {α : Type} (f : State → α) (work : ∀ s t, shared t = shared s → f t = f s)
    (agent : ∀ m s, f (agentStep m s) = f s) (turns : ∀ l s, f { s with turns := l } = f s)
    (does : ∀ k ∈ K, ∀ s t, Does k s t → f t = f s) (enter : ∀ c s, f (enter c s) = f s)
    (leave : ∀ c s, f (leave c s) = f s) (h : Path K s t) : f t = f s :=
  lift (R := fun a b => f b = f a) (fun _ => rfl) (fun _ _ _ h k => k.trans h) work agent turns does enter leave h

theorem cfg (h : Path K s t) : t.cfg = s.cfg := by
  refine keeps State.cfg (fun _ _ h => (congrArg State.cfg h :)) (fun m s => (agentStep_same m s).cfg) (fun _ _ => rfl)
    (fun k _ s t h => ?_) (fun _ _ => rfl) (fun _ _ => rfl) h
  cases k with
  | read r => cases h; exact regRead_cfg _ _ _
  | write r => obtain ⟨v, rfl⟩ := h; exact regWrite_cfg _ _ _ _
  | delay => obtain ⟨n, rfl | rfl⟩ := h <;> rfl
  | bitrate => obtain ⟨br, -, rfl⟩ := h; rfl
  | mask => obtain ⟨v, rfl⟩ := h; unfold setIrqMask; split <;> rfl
  | take | forget => cases h; rfl
  | log | respond | count | request | put => obtain ⟨x, rfl⟩ := h; rfl

/-- Every call that a path makes has returned. -/
theorem calls (h : Path K s t) : t.eng.calls = s.eng.calls := by
  induction h with
  | refl s => rfl
  | trans _ _ ih ih' => exact ih'.trans ih
  | work h => exact congrArg (fun a => a.eng.calls) h
  | agent m s => rw [(agentStep_same m s).eng]
  | turns l s => rfl
  | call c _ ih => exact congrArg List.tail ih
  | @does k s t _ h =>
    cases k with
    | read r => cases h; rw [regRead_eng]
    | write r => obtain ⟨v, rfl⟩ := h; rw [regWrite_eng]
    | delay => obtain ⟨n, rfl | rfl⟩ := h <;> rfl
    | bitrate => obtain ⟨br, -, rfl⟩ := h; rfl
    | mask => obtain ⟨v, rfl⟩ := h; unfold setIrqMask; split <;> rfl
    | take | forget => cases h; rfl
    | log | respond | count | request | put => obtain ⟨x, rfl⟩ := h; rfl

end Path

/-! The invariant along a path. -/

/-- The invariant speaks of the parameters, the controller, the wire, the bitrate, the signal, the handler's place and the mask. -/
theorem Consistent.congr {a b : State} (c : Consistent a) (cfg : b.cfg = a.cfg) (ctl : b.ctl = a.ctl)
    (wire : b.busIdle = a.busIdle) (bitrate : b.eng.bitrate = a.eng.bitrate) (sig : b.sig = a.sig)
    (isr : b.isr = a.isr) (mask : b.irqMask = a.irqMask) : Consistent b := by
  constructor
  · rw [ctl, cfg]; exact c.wfifoFits
  · rw [ctl, cfg]; exact c.rfifoFits
  · rw [ctl]; exact c.heldEmpty
  · rw [ctl, wire]; exact c.frameBusy
  · rw [ctl]; exact c.invalidatedFrame
  · rw [bitrate, cfg]; exact c.bitrateAdmitted
  · rw [cfg, sig, isr, mask]; exact c.polledQuiet

/-- A running controller is in no reset, so the reset clause of the invariant says nothing. -/
theorem not_held_of_gate {k : Controller} {p : Prop} (gate : ctlGate k = true) (held : k.rst = true ∨ k.frst = true) : p := by
  obtain ⟨-, rst, frst⟩ := (ctlGate_iff k).mp gate
  rw [rst, frst] at held
  simp at held

theorem gate_of_transmitting {k : Controller} (h : transmitting k = true) : ctlGate k = true := by
  simp only [transmitting, Bool.and_eq_true] at h; exact h.1.1

theorem active_of_transmitting {k : Controller} (h : transmitting k = true) : k.frame.active = true := by
  simp only [transmitting, Bool.and_eq_true] at h; exact h.1.2

theorem gate_of_framing {k : Controller} (h : framing k = true) : ctlGate k = true := ((framing_iff k).mp h).1

theorem handlerStep_consistent {s : State} (c : Consistent s) (event : s.cfg.mode ≠ .polled) :
    Consistent (handlerStep s) := by
  have noPolled {p : Prop} : s.cfg.mode = .polled → p := fun h => absurd h event
  unfold handlerStep; split
  · rw [handlerH0_eq]; exact { c with polledQuiet := noPolled }
  · rw [handlerH1_eq]; exact { c with polledQuiet := noPolled }
  · rw [handlerH2_eq]; exact { c with polledQuiet := noPolled }
  · rw [handlerH3_eq]; exact { c with polledQuiet := noPolled }
  · rw [handlerH4_eq]; exact { c with polledQuiet := noPolled }
  · rw [handlerH5_eq]; exact { c with polledQuiet := noPolled }

/-- Every move of another agent keeps the invariant. -/
theorem agentStep_consistent (m : Turn) {s : State} (c : Consistent s) : Consistent (agentStep m s) := by
  cases m with
  | eng | expire => exact c
  | ctlStart =>
    simp only [agentStep, ctlStart]; split
    case isFalse => exact c
    case isTrue h =>
      simp only [Bool.and_eq_true] at h
      exact { c with heldEmpty := not_held_of_gate h.1.1, frameBusy := fun _ => rfl, invalidatedFrame := nofun }
  | ctlTx =>
    simp only [agentStep, ctlTx]; split
    case isFalse => exact c
    case isTrue h =>
      split
      next b q wfifo =>
        have fits := c.wfifoFits
        rw [wfifo] at fits
        exact { c with
          wfifoFits := Nat.le_of_succ_le fits, heldEmpty := not_held_of_gate (gate_of_transmitting h) }
      next => exact c
  | ctlUnderrun => simp only [agentStep, ctlUnderrun]; split <;> exact { c with }
  | ctlEof =>
    simp only [agentStep, ctlEof]; split
    case isFalse => exact c
    case isTrue h =>
      exact { c with
        heldEmpty := not_held_of_gate (k := s.ctl) (gate_of_transmitting h)
        frameBusy := fun _ => c.frameBusy (active_of_transmitting h), invalidatedFrame := fun _ => rfl }
  | ctlEnd =>
    simp only [agentStep, ctlEnd]; split
    case isFalse => exact c
    case isTrue h =>
      simp only [Bool.and_eq_true] at h
      exact { c with heldEmpty := not_held_of_gate (k := s.ctl) (gate_of_framing h.1), frameBusy := nofun, invalidatedFrame := nofun }
  | ctlRx b =>
    simp only [agentStep, ctlRx]; split
    case isFalse => exact c
    case isTrue h =>
      split
      case isTrue room =>
        have fits : (s.ctl.rfifo ++ [b]).length ≤ s.cfg.rfifoDepth := by
          rw [List.length_append, List.length_singleton]; exact room
        exact { c with rfifoFits := fits, heldEmpty := not_held_of_gate (gate_of_framing h) }
      case isFalse => exact { c with }
  | ctlErr e => simp only [agentStep, ctlErr]; split <;> exact { c with }
  | envBus v =>
    simp only [agentStep, envBus]; split
    case isTrue => exact c
    case isFalse inactive => exact { c with frameBusy := fun active => absurd active inactive }
  | envErr e => simp only [agentStep, envErr]; split <;> exact { c with }
  | isr =>
    simp only [agentStep, isrStep]; split
    case isFalse => exact c
    case isTrue enabled =>
      refine handlerStep_consistent c fun polled => ?_
      rw [irqEnabled_eq_false (.inl polled)] at enabled
      cases enabled
  | host bytes => simp only [agentStep, offer]; split <;> exact { c with }
  | platform w => simp only [agentStep, offer]; split <;> exact { c with }

/-- A register read pops the read FIFO at most. -/
theorem regRead_consistent (who : Agent) (r : Reg) {s : State} (c : Consistent s) : Consistent (regRead who r s) := by
  rw [regRead_outside, regRead_ctl]
  by_cases pops : r = .rdData
  · rw [if_pos pops]
    have fits : s.ctl.rfifo.tail.length ≤ s.cfg.rfifoDepth := by
      rw [List.length_tail]; exact Nat.le_trans (Nat.sub_le _ _) c.rfifoFits
    refine { c with rfifoFits := fits, heldEmpty := fun held => ?_ }
    obtain ⟨wfifo, rfifo, frame, txen⟩ := c.heldEmpty held
    exact ⟨wfifo, by rw [rfifo]; rfl, frame, txen⟩
  · rw [if_neg pops]
    exact { c with }

/-- A write of `CONTROL` keeps the invariant: under a reset everything that is held is emptied. -/
theorem writeControl_consistent (v : Byte) {s : State} (c : Consistent s) : Consistent (writeControl v s) := by
  cases rst : hasBit v s.cfg.layout.rst with
  | true =>
    rw [writeControl_rst rst]
    cases clears : s.cfg.rstClearsStatus <;> simp only [clearStatus, clears] <;>
      exact ⟨Nat.zero_le _, Nat.zero_le _, fun _ => ⟨rfl, rfl, rfl, rfl⟩, nofun, nofun, c.bitrateAdmitted, c.polledQuiet⟩
  | false =>
    cases frst : hasBit v s.cfg.layout.frst with
    | true =>
      rw [writeControl_frst rst frst]
      exact ⟨Nat.zero_le _, Nat.zero_le _, fun _ => ⟨rfl, rfl, rfl, rfl⟩, nofun, nofun, c.bitrateAdmitted, c.polledQuiet⟩
    | false =>
      rw [writeControl_plain v s rst frst]
      refine { c with heldEmpty := fun held => ?_ }
      simp [assignControl, rst, frst] at held

/-- A push keeps the write FIFO within its depth. -/
theorem writeWrData_consistent (b : Byte) {s : State} (c : Consistent s) : Consistent (writeWrData b s) := by
  rw [writeWrData_eq]
  split
  · exact { c with }
  next open' =>
    simp only [not_or] at open'
    obtain ⟨rst, frst, room⟩ := open'
    have fits : (s.ctl.wfifo ++ [b]).length ≤ s.cfg.wfifoDepth := by
      rw [List.length_append, List.length_singleton]; exact Nat.lt_of_le_of_ne c.wfifoFits room
    exact { c with wfifoFits := fits, heldEmpty := fun held => (held.elim rst frst).elim }

theorem writeReg_consistent (r : Reg) (v : Byte) {s : State} (c : Consistent s) : Consistent (writeReg r v s) := by
  have timed : s.ctl.invalidated = true ∨ s.ctl.frame.active = true → s.ctl.frame.active = true :=
    fun h => h.elim c.invalidatedFrame id
  cases r with
  | control => exact writeControl_consistent v c
  | wrData => exact writeWrData_consistent v c
  | status2 | rdData => exact c
  | status1 | error | intEn1 | intEn2 => exact { c with }
  | btLow | btHigh => exact { c with invalidatedFrame := fun h => timed (by simpa [writeReg, writeBtLow, writeBtHigh] using h) }

theorem regWrite_consistent (who : Agent) (r : Reg) (v : Byte) {s : State} (c : Consistent s) :
    Consistent (regWrite who r v s) :=
  (writeReg_consistent r v c).congr rfl rfl rfl rfl rfl rfl rfl

/-- The mask is written in EVENT mode only. -/
theorem setIrqMask_consistent (v : Bool) {s : State} (c : Consistent s) : Consistent (setIrqMask v s) := by
  unfold setIrqMask; split
  next event => exact { c with polledQuiet := fun polled => by rw [show s.cfg.mode = .event from event] at polled; cases polled }
  next => exact c

theorem does_consistent {k : Kind} {s t : State} (h : Does k s t) (c : Consistent s) : Consistent t := by
  cases k with
  | read r => cases h; exact regRead_consistent _ r c
  | write r => obtain ⟨v, rfl⟩ := h; exact regWrite_consistent _ r v c
  | delay => obtain ⟨n, rfl | rfl⟩ := h <;> exact { c with }
  | bitrate => obtain ⟨br, valid, rfl⟩ := h; exact { c with bitrateAdmitted := .inr valid }
  | mask => obtain ⟨v, rfl⟩ := h; exact setIrqMask_consistent v c
  | take => cases h; exact { c with polledQuiet := fun polled => ⟨rfl, (c.polledQuiet polled).2⟩ }
  | forget => cases h; exact { c with }
  | log | respond | count | request | put => obtain ⟨x, rfl⟩ := h; exact { c with }

/-- The invariant holds along every path. -/
theorem Path.consistent {K : List Kind} {s t : State} (h : Path K s t) : Consistent s → Consistent t := by
  refine h.lift (R := fun a b => Consistent a → Consistent b) (fun _ => id) (fun _ _ _ h k c => k (h c))
    (fun a b same c => ?_) (fun m _ => agentStep_consistent m) (fun _ _ c => { c with })
    (fun _ _ _ _ h => does_consistent h) (fun _ _ c => { c with }) (fun _ _ c => { c with })
  exact c.congr (congrArg State.cfg same :) (congrArg State.ctl same :) (congrArg State.busIdle same :)
    (congrArg (fun u => u.eng.bitrate) same :) (congrArg State.sig same :) (congrArg State.isr same :)
    (congrArg State.irqMask same :)

end Sys2Proof.Machine
end

section
/-! PROOF. The path of every operation: which kinds of steps it uses, whatever the other agents do, from any of its step labels (10_state.md R19). -/

namespace Sys2Proof.Machine

variable {K : List Kind}

/-- Every next state of an outcome is reached by a path. -/
def Leads (K : List Kind) (s : State) (r : Host.Outcome State Fault Refusal) : Prop :=
  ∀ t, r = .next t → Path K s t

theorem Leads.next {s t : State} (h : Path K s t) : Leads K s (.next t) := fun _ e => by cases e; exact h

theorem Leads.after {s t : State} {r : Host.Outcome State Fault Refusal} (h : Path K s t) (k : Leads K t r) :
    Leads K s r := fun _ e => h.trans (k _ e)

theorem Leads.andThen {s : State} {r : Host.Outcome State Fault Refusal}
    {f : State → Host.Outcome State Fault Refusal} (h : Leads K s r) (hf : ∀ t, r = .next t → Leads K t (f t)) :
    Leads K s (andThen r f) := fun _ e => by
  obtain ⟨t, ht, e⟩ := andThen_next e
  exact (h t ht).trans (hf t ht _ e)

theorem Leads.callOrStop {c : CallSite} {s : State} {f : State → Host.Outcome State Fault Refusal}
    (h : Leads K (enter c s) (f (enter c s))) : Leads K s (callOrStop c f s) := fun _ e => by
  obtain ⟨t, ht, rfl⟩ := callOrStop_next e
  exact .call c (h t ht)

theorem Leads.mono {L : List Kind} {s : State} {r : Host.Outcome State Fault Refusal} (h : Leads K s r)
    (sub : K ⊆ L) : Leads L s r := fun t e => (h t e).mono sub

/-! The engine's own steps. -/

theorem othersFrom_path (l : List Turn) (s : State) : Path K s (othersFrom l s) := by
  induction l generalizing s with
  | nil => exact .turns [] s
  | cons m l ih =>
    by_cases h : m = .eng
    · subst h; exact .turns l s
    · rw [othersFrom_other h]; exact (Path.agent m s).trans (ih _)

theorem others_path (s : State) : Path K s (others s) := othersFrom_path s.turns s

theorem loadStatus_path {r : Reg} (h : .read r ∈ K) (s : State) : Path K s (loadStatus r s) :=
  ((Path.does h rfl).trans (.edit (regRead .eng _ s) (latchS _) rfl)).trans (others_path _)

theorem loadControl_path (h : .read .control ∈ K) (s : State) : Path K s (loadControl s) :=
  ((Path.does h rfl).trans (.edit (regRead .eng _ s) (latchC _) rfl)).trans (others_path _)

theorem loadError_path (h : .read .error ∈ K) (s : State) : Path K s (loadError s) :=
  ((Path.does h rfl).trans (.edit (regRead .eng _ s) (latchE _) rfl)).trans (others_path _)

theorem loadData_path (h : .read .rdData ∈ K) (s : State) : Path K s (loadData s) :=
  ((Path.does h rfl).trans (.edit (regRead .eng _ s) (latchB _) rfl)).trans (others_path _)

theorem store_path {r : Reg} (h : .write r ∈ K) (v : Byte) (s : State) : Path K s (store r v s) :=
  (Path.does h ⟨v, rfl⟩).trans (others_path _)

theorem delayUs_path (h : .delay ∈ K) (n : Nat) (s : State) : Path K s (delayUs n s) :=
  (Path.does h ⟨n, .inl rfl⟩).trans (others_path _)

theorem sleepMs_path (h : .delay ∈ K) (n : Nat) (s : State) : Path K s (sleepMs n s) :=
  (Path.does h ⟨n, .inr rfl⟩).trans (others_path _)

theorem setTimeouts_path (h : .count ∈ K) (n : Word) (s : State) : Path K s (setTimeouts n s) :=
  (Path.does h ⟨n, rfl⟩).trans (others_path _)

/-- A read-modify-write of `CONTROL`. -/
def controlKinds : List Kind := [.read .control, .write .control]

theorem setControl_path (field : Layout → Fin 8) (s : State) : Path controlKinds s (setControl field s) :=
  (loadControl_path (by decide) s).trans (store_path (by decide) _ _)

theorem clearControl_path (field : Layout → Fin 8) (s : State) : Path controlKinds s (clearControl field s) :=
  (loadControl_path (by decide) s).trans (store_path (by decide) _ _)

theorem call_path (c : CallSite) {f : State → State} (hf : ∀ t, Path K t (f t)) (s : State) :
    Path K s (call c f s) := .call c (hf _)

/-! WAIT_IDLE (R120). -/

def idleKinds : List Kind := [.read .status2, .delay]

theorem idlePoll_path (s : State) : Path idleKinds s (idlePoll s) :=
  (Path.edit s (goto .i1 s) rfl).trans (loadStatus_path (by decide) (goto .i1 s))

theorem idleCount_path (s : State) : Path K s (idleCount s) := .work rfl

theorem idleDelay_path (s : State) : Path idleKinds s (idleDelay s) :=
  ((Path.edit s (goto .i3 s) rfl).trans (delayUs_path (by decide) _ (goto .i3 s))).trans (idleCount_path _)

theorem idleDecide_path {again : State → State} (h : ∀ a, Path idleKinds a (again a)) (s : State) :
    Path idleKinds s (idleDecide again s) := by
  unfold idleDecide; split
  · exact .work rfl
  · exact ((Path.edit s (goto .i2 s) rfl).trans (idleDelay_path (goto .i2 s))).trans (h _)

theorem idleLoop_path (n : Nat) (s : State) : Path idleKinds s (idleLoop n s) := by
  induction n generalizing s with
  | zero => exact .work rfl
  | succ n ih => exact (idlePoll_path s).trans (idleDecide_path ih _)

theorem waitIdle_path (s : State) : Path idleKinds s (waitIdle s) :=
  (Path.edit s (loadIdleAttempts s) rfl).trans (idleLoop_path _ (loadIdleAttempts s))

/-! The completion waits (R141, R142). -/

def pollKinds : List Kind := [.read .status1, .delay]

theorem txPoll_path (s : State) : Path pollKinds s (txPoll s) :=
  (Path.edit s (goto .p1 s) rfl).trans (loadStatus_path (by decide) (goto .p1 s))

theorem txCount_path (s : State) : Path K s (txCount s) := .work rfl

theorem txDelay_path (s : State) : Path pollKinds s (txDelay s) :=
  ((Path.edit s (goto .p3 s) rfl).trans (delayUs_path (by decide) _ (goto .p3 s))).trans (txCount_path _)

theorem txDecide_path {again : State → State} (h : ∀ a, Path pollKinds a (again a)) (s : State) :
    Path pollKinds s (txDecide again s) := by
  unfold txDecide; split
  · exact .work rfl
  · exact ((Path.edit s (goto .p2 s) rfl).trans (txDelay_path (goto .p2 s))).trans (h _)

theorem pollLoop_path (n : Nat) (s : State) : Path pollKinds s (pollLoop n s) := by
  induction n generalizing s with
  | zero => exact .work rfl
  | succ n ih => exact (txPoll_path s).trans (txDecide_path ih _)

theorem waitPoll_path (s : State) : Path pollKinds s (waitPoll s) :=
  (Path.edit s (loadTxAttempts s) rfl).trans (pollLoop_path _ (loadTxAttempts s))

def eventKinds : List Kind := [.take]

theorem takeSignal_path (s : State) : Path eventKinds s (takeSignal s) :=
  (Path.does (k := .take) (by decide) rfl).trans (.work rfl)

theorem expireWait_path (s : State) : Path eventKinds s (expireWait s) := .work rfl

theorem decideEvent_path (s : State) : Path eventKinds s (decideEvent s) := by
  unfold decideEvent; split
  · exact takeSignal_path s
  · exact expireWait_path s

theorem eventLoop_path (l : List Turn) (s : State) : Path eventKinds s (eventLoop l s) := by
  induction l generalizing s with
  | nil => exact (Path.turns [] s).trans (decideEvent_path _)
  | cons t l ih =>
    cases t with
    | eng =>
      unfold eventLoop; split
      · exact (Path.turns l s).trans (takeSignal_path _)
      · exact ih s
    | expire =>
      unfold eventLoop; split
      · exact ih s
      · exact (Path.turns l s).trans (expireWait_path _)
    | _ => exact (Path.agent _ s).trans (ih _)

theorem waitEvent_path (len : Byte) (s : State) : Path eventKinds s (waitEvent len s) := by
  unfold waitEvent; split
  · exact (Path.edit s (goto .e0 s) rfl).trans (decideEvent_path (goto .e0 s))
  · exact (Path.edit s (goto .e0 s) rfl).trans (eventLoop_path _ (goto .e0 s))

def completionKinds : List Kind := [.read .status1, .delay, .take]

theorem waitComplete_path (len : Byte) (s : State) : Path completionKinds s (waitComplete len s) := by
  unfold waitComplete; split
  · exact (waitPoll_path s).mono (by decide)
  · exact (waitEvent_path len s).mono (by decide)

/-! CONFIGURE (R110). -/

def configureKinds : List Kind := [.read .control, .write .control, .write .btLow, .write .btHigh, .bitrate]

theorem powerOff_path (s : State) : Path configureKinds s (powerOff s) :=
  (Path.edit s (goto .c1 s) rfl).trans ((setControl_path _ (goto .c1 s)).mono (by decide))

theorem storeDivLow_path (s : State) : Path configureKinds s (storeDivLow s) :=
  (Path.edit s (goto .c3 s) rfl).trans (store_path (by decide) _ (goto .c3 s))

theorem storeDivHigh_path (s : State) : Path configureKinds s (storeDivHigh s) :=
  (Path.edit s (goto .c4 s) rfl).trans (store_path (by decide) _ (goto .c4 s))

theorem powerOn_path (s : State) : Path configureKinds s (powerOn s) :=
  (Path.edit s (goto .c5 s) rfl).trans ((clearControl_path _ (goto .c5 s)).mono (by decide))

/-- The operand of the CONFIGURE under way is an admitted bitrate. -/
def OperandValid (s : State) : Prop := validBitrate s.cfg s.eng.newBitrate = true

theorem finishConfigure_path {s : State} (h : OperandValid s) : Path configureKinds s (finishConfigure s) :=
  (Path.does (k := .bitrate) (by decide) ⟨_, h, rfl⟩).trans (.work rfl)

theorem configureFromC5_path {s : State} (h : OperandValid s) :
    Path configureKinds s (finishConfigure (powerOn s)) :=
  (powerOn_path s).trans (finishConfigure_path (by simpa [OperandValid, powerOn] using h))

theorem configureFromC4_path {s : State} (h : OperandValid s) : Path configureKinds s (configureFromC4 s) :=
  (storeDivHigh_path s).trans (configureFromC5_path (by simpa [OperandValid, storeDivHigh] using h))

theorem configureFromC3_path {s : State} (h : OperandValid s) :
    Path configureKinds s (configureFromC4 (storeDivLow s)) :=
  (storeDivLow_path s).trans (configureFromC4_path (by simpa [OperandValid, storeDivLow] using h))

theorem configureFromC2_path {s : State} (h : OperandValid s) : Path configureKinds s (configureFromC2 s) :=
  (Path.edit s (latchDiv s) rfl).trans (configureFromC3_path h)

theorem configureFromC1_path {s : State} (h : OperandValid s) : Path configureKinds s (configureFromC1 s) :=
  (powerOff_path s).trans (configureFromC2_path (by simpa [OperandValid, powerOff] using h))

theorem configure_leads (br : Word) (s : State) : Leads configureKinds s (configure br s) := by
  unfold configure; split
  case isTrue valid => exact .next ((Path.edit s (latchOperand br s) rfl).trans (configureFromC1_path valid))
  case isFalse => exact fun _ e => by cases e

/-! RECOVER (R175, R176). -/

def recoverKinds : List Kind := [.read .control, .write .control, .write .btLow, .write .btHigh, .bitrate, .delay]

theorem recoverFifo_path (s : State) : Path controlKinds s (recoverFifo s) :=
  (Path.edit s (goto .v0 s) rfl).trans (setControl_path _ (goto .v0 s))

theorem assertReset_path (s : State) : Path recoverKinds s (assertReset s) :=
  (Path.edit s (goto .v1 s) rfl).trans (store_path (by decide) _ (goto .v1 s))

theorem holdReset_path (inIsr : Bool) (s : State) : Path recoverKinds s (holdReset inIsr s) := by
  unfold holdReset; split
  · exact (Path.edit s (goto .v2 s) rfl).trans (delayUs_path (by decide) _ (goto .v2 s))
  · exact (Path.edit s (goto .v2 s) rfl).trans (sleepMs_path (by decide) _ (goto .v2 s))

theorem releaseReset_path (s : State) : Path recoverKinds s (releaseReset s) :=
  (Path.edit s (goto .v3 s) rfl).trans ((clearControl_path _ (goto .v3 s)).mono (by decide))

theorem reapplyBitrate_leads (s : State) : Leads recoverKinds s (reapplyBitrate s) :=
  .after (.edit s (goto .v5 s) rfl) (.callOrStop ((configure_leads _ _).mono (by decide)))

theorem reconfigure_leads (s : State) : Leads recoverKinds s (reconfigure s) := by
  unfold reconfigure; split
  · exact fun _ e => by cases e
  · exact .after (.edit s (goto .v4 s) rfl) (reapplyBitrate_leads _)

theorem recoverFromV2_leads (inIsr : Bool) (s : State) : Leads recoverKinds s (recoverFromV2 inIsr s) :=
  .after ((holdReset_path inIsr s).trans (releaseReset_path _)) (reconfigure_leads _)

theorem recoverFull_leads (inIsr : Bool) (s : State) : Leads recoverKinds s (recoverFull inIsr s) :=
  .after (assertReset_path s) (recoverFromV2_leads inIsr _)

theorem recover_leads (full : Bool) (s : State) : Leads recoverKinds s (recover full s) := by
  unfold recover; split
  · exact recoverFull_leads false s
  · exact .next ((recoverFifo_path s).mono (by decide))

/-! FINISH (R170). -/

def finishKinds : List Kind :=
  [.read .status1, .write .status1, .read .error, .write .error, .log, .read .control, .write .control]

/-- The kinds of F0 and F1. -/
def eofKinds : List Kind := [.read .status1, .write .status1]

/-- The kinds of F3 to F7. -/
def judgeKinds : List Kind := [.write .error, .log, .read .control, .write .control]

theorem readEof_path (s : State) : Path [.read .status1] s (readEof s) :=
  (Path.edit s (goto .f0 s) rfl).trans (loadStatus_path (by decide) (goto .f0 s))

theorem clearEof_path (s : State) : Path eofKinds s (clearEof s) := by
  unfold clearEof; split
  · exact (Path.edit s (goto .f1 s) rfl).trans (store_path (by decide) _ (goto .f1 s))
  · exact .work rfl

theorem readErrors_path (s : State) : Path [.read .error] s (readErrors s) :=
  (Path.edit s (goto .f2 s) rfl).trans (loadError_path (by decide) (goto .f2 s))

theorem classify_path (field : Layout → Fin 8) (x : ErrorClass) (s : State) :
    Path [.log] s (classify field x s) := by
  unfold classify; split
  · exact .does (k := .log) (by decide) ⟨_, rfl⟩
  · exact .refl s

theorem classifyErrors_path (s : State) : Path [.log] s (classifyErrors s) :=
  (((Path.edit s (goto .f4 s) rfl).trans (classify_path _ _ (goto .f4 s))).trans (classify_path _ _ _)).trans (classify_path _ _ _)

theorem clearErrors_path (s : State) : Path [.write .error] s (clearErrors s) :=
  (Path.edit s (goto .f5 s) rfl).trans (store_path (by decide) _ (goto .f5 s))

theorem failFinish_path (s : State) : Path K s (failFinish s) := .work rfl

theorem finishFromF6_path (s : State) : Path controlKinds s (finishFromF6 s) :=
  ((Path.edit s (goto .f6 s) rfl).trans (call_path .f6 recoverFifo_path (goto .f6 s))).trans
    (failFinish_path _)

theorem finishFromF4_path (s : State) : Path judgeKinds s (finishFromF4 s) :=
  (((classifyErrors_path s).mono (by decide)).trans ((clearErrors_path _).mono (by decide))).trans
    ((finishFromF6_path _).mono (by decide))

theorem judge_path (s : State) : Path judgeKinds s (judge s) := by
  unfold judge; split
  · exact .work rfl
  · exact (Path.edit s (goto .f3 s) rfl).trans (finishFromF4_path (goto .f3 s))

theorem eofCleared_path (s : State) : Path eofKinds s (clearEof (readEof s)) :=
  ((readEof_path s).mono (by decide)).trans (clearEof_path _)

theorem finishFromF2_path (s : State) : Path finishKinds s (judge (readErrors s)) :=
  ((readErrors_path s).mono (by decide)).trans ((judge_path _).mono (by decide))

theorem finish_path (s : State) : Path finishKinds s (finish s) :=
  ((eofCleared_path s).mono (by decide)).trans (finishFromF2_path _)

/-! WRITE (R125). -/

/-- W1 to W4: the check, the cleared flag and the pushes. -/
def pushKinds : List Kind := [.read .status2, .read .control, .write .control, .write .wrData]

theorem checkRoom_path (s : State) : Path [.read .status2] s (checkRoom s) :=
  (Path.edit s (goto .w1 s) rfl).trans (loadStatus_path (by decide) (goto .w1 s))

theorem clearPendingReset_path (s : State) : Path controlKinds s (clearPendingReset s) :=
  (Path.edit s (goto .w2 s) rfl).trans (clearControl_path _ (goto .w2 s))

def payloadKinds : List Kind := [.read .status2, .write .wrData]

theorem pushHeader_path (s : State) : Path payloadKinds s (pushHeader s) :=
  (((Path.edit s (goto .w3 s) rfl).trans (store_path (by decide) _ (goto .w3 s))).trans (store_path (by decide) _ _)).trans
    (store_path (by decide) _ _)

theorem guardRead_path (j : Byte) (s : State) : Path payloadKinds s (guardRead j s) :=
  (Path.edit s { s with eng := { s.eng with j := j } } rfl).trans (loadStatus_path (by decide) { s with eng := { s.eng with j := j } })

theorem pushGuarded_path (b : Byte) (s : State) : Path payloadKinds s (pushGuarded b s) := by
  unfold pushGuarded; split
  · exact .refl s
  · exact store_path (by decide) b s

theorem pushPayload_path (l : List Byte) (j : Byte) (s : State) : Path payloadKinds s (pushPayload l j s) := by
  induction l generalizing j s with
  | nil => exact .refl s
  | cons b rest ih => exact ((guardRead_path j s).trans (pushGuarded_path b _)).trans (ih _ _)

theorem pushBody_path (s : State) : Path payloadKinds s (pushBody s) := by
  unfold pushBody; split
  · exact .work rfl
  · exact ((Path.edit s (goto .w4 s) rfl).trans (store_path (by decide) _ (goto .w4 s))).trans (pushPayload_path _ _ _)

theorem checkIdle_path (s : State) : Path idleKinds s (checkIdle s) :=
  (Path.edit s (goto .w5 s) rfl).trans (call_path .w5 waitIdle_path (goto .w5 s))

def triggerKinds : List Kind := [.read .control, .write .control, .delay]

theorem trigger_path (s : State) : Path triggerKinds s (trigger s) :=
  ((Path.edit s (goto .w6 s) rfl).trans ((setControl_path _ (goto .w6 s)).mono (by decide))).trans (delayUs_path (by decide) _ _)

theorem awaitCompletion_path (s : State) : Path completionKinds s (awaitCompletion s) :=
  (Path.edit s (goto .w7 s) rfl).trans (call_path .w7Wait (waitComplete_path _) (goto .w7 s))

def writeKinds : List Kind :=
  [.read .status1, .read .status2, .read .control, .write .control, .write .wrData, .write .btLow, .write .btHigh,
    .bitrate, .delay, .take, .count]

theorem recoverFromTimeout_leads (s : State) : Leads writeKinds s (recoverFromTimeout s) :=
  .callOrStop ((recover_leads _ _).mono (by decide))

theorem timedOut_leads (s : State) : Leads writeKinds s (timedOut s) :=
  Leads.andThen (.after (setTimeouts_path (by decide) _ s) (recoverFromTimeout_leads _)) fun _ _ => .next (.work rfl)

theorem concludeWrite_leads (s : State) : Leads writeKinds s (concludeWrite s) := by
  unfold concludeWrite; split
  · exact .next ((setTimeouts_path (by decide) 0 s).trans (.work rfl))
  · exact timedOut_leads s

theorem writeFromW7_leads (s : State) : Leads writeKinds s (writeFromW7 s) :=
  .after ((awaitCompletion_path s).mono (by decide)) (concludeWrite_leads _)

theorem transmit_leads (s : State) : Leads writeKinds s (transmit s) := by
  unfold transmit; split
  · exact .after ((trigger_path s).mono (by decide)) (writeFromW7_leads _)
  · exact .next (.refl s)

theorem writeFromW5_leads (s : State) : Leads writeKinds s (writeFromW5 s) :=
  .after ((checkIdle_path s).mono (by decide)) (transmit_leads _)

theorem writeFromW4_leads (s : State) : Leads writeKinds s (writeFromW5 (pushBody s)) :=
  .after ((pushBody_path s).mono (by decide)) (writeFromW5_leads _)

theorem writeFromW3_leads (s : State) : Leads writeKinds s (writeFromW5 (pushBody (pushHeader s))) :=
  .after ((pushHeader_path s).mono (by decide)) (writeFromW4_leads _)

theorem writeFromW2_leads (s : State) : Leads writeKinds s (writeFromW2 s) :=
  .after ((clearPendingReset_path s).mono (by decide)) (writeFromW3_leads _)

theorem write_leads (s : State) : Leads writeKinds s (write s) := by
  refine .after ((checkRoom_path s).mono (by decide)) ?_
  rw [write, writeAfterCheck]; split
  · exact .next (.work rfl)
  · exact writeFromW2_leads _

/-! READ (R155). -/

def readKinds : List Kind := [.read .status2, .read .rdData, .delay, .respond, .log]

theorem rxPoll_path (s : State) : Path idleKinds s (rxPoll s) :=
  (Path.edit s (goto .d3 s) rfl).trans (loadStatus_path (by decide) (goto .d3 s))

theorem countAttempt_path (s : State) : Path K s (countAttempt s) := .work rfl

theorem rxDecide_path {again : State → State} (h : ∀ a, Path idleKinds a (again a)) (s : State) :
    Path idleKinds s (rxDecide again s) := by
  unfold rxDecide; split
  · exact (((Path.edit s (goto .d4 s) rfl).trans (delayUs_path (by decide) _ (goto .d4 s))).trans (countAttempt_path _)).trans (h _)
  · exact .work rfl

theorem slotWait_path (n : Nat) (s : State) : Path idleKinds s (slotWait n s) := by
  induction n generalizing s with
  | zero => exact .work rfl
  | succ n ih => exact (rxPoll_path s).trans (rxDecide_path ih _)

theorem awaitSlot_path (s : State) : Path idleKinds s (awaitSlot s) :=
  (Path.edit s (loadRxAttempts s) rfl).trans (slotWait_path _ (loadRxAttempts s))

theorem popSlot_path (s : State) : Path readKinds s (popSlot s) :=
  (Path.edit s (goto .d5 s) rfl).trans (loadData_path (by decide) (goto .d5 s))

/-- A response written, with internal registers. -/
theorem respond_path {s t : State} (mem : .respond ∈ K)
    (h : shared t = shared { s with eng := { s.eng with rsp := t.eng.rsp } }) : Path K s t :=
  (Path.does (k := .respond) mem ⟨t.eng.rsp, rfl⟩).trans (.work h)

theorem placeByte_path (cmd : Byte) (len : Half) (s : State) : Path readKinds s (placeByte cmd len s) := by
  unfold placeByte; split
  · split
    · exact respond_path (by decide) rfl
    · exact respond_path (by decide) rfl
  · split
    · exact respond_path (by decide) rfl
    · exact respond_path (by decide) rfl

theorem keepByte_path (cmd : Byte) (len : Half) {again : State → State} (h : ∀ a, Path readKinds a (again a))
    (s : State) : Path readKinds s (keepByte cmd len again s) := by
  have placed : Path readKinds s (placeByte cmd len (goto .d6 s)) := (Path.edit s (goto .d6 s) rfl).trans (placeByte_path _ _ _)
  unfold keepByte; split
  · exact placed
  · exact (placed.trans (.edit _ (setSlot (s.eng.i + 1) (placeByte cmd len (goto .d6 s))) rfl)).trans (h _)

theorem takeByte_path (cmd : Byte) (len : Half) {again : State → State} (h : ∀ a, Path readKinds a (again a))
    (s : State) : Path readKinds s (takeByte cmd len again s) := by
  unfold takeByte; split
  · exact (popSlot_path s).trans (keepByte_path _ _ h _)
  · exact .refl s

theorem slotLoop_path (cmd : Byte) (len : Half) (left : Nat) (s : State) :
    Path readKinds s (slotLoop cmd len left s) := by
  induction left generalizing s with
  | zero => exact .refl s
  | succ left ih => exact ((awaitSlot_path s).mono (by decide)).trans (takeByte_path _ _ ih _)

theorem checkLength_path (len : Half) (s : State) : Path readKinds s (checkLength len s) := by
  unfold checkLength; split
  · exact .work rfl
  · exact (Path.edit s (goto .d7 s) rfl).trans (.does (k := .log) (by decide) ⟨_, rfl⟩)

theorem concludeRead_path (s : State) : Path K s (concludeRead s) := by
  unfold concludeRead; split
  · exact .work rfl
  · exact .refl s

theorem readFromD8_path (s : State) : Path readKinds s (readFromD8 s) :=
  ((Path.edit s (goto .d8 s) rfl).trans ((call_path .d8 waitIdle_path (goto .d8 s)).mono (by decide))).trans (concludeRead_path _)

theorem readFromD7_path (len : Half) (s : State) : Path readKinds s (readFromD7 len s) :=
  (checkLength_path len s).trans (readFromD8_path _)

theorem afterSlots_path (len : Half) (s : State) : Path readKinds s (afterSlots len s) := by
  unfold afterSlots; split
  · exact readFromD7_path len s
  · exact .refl s

theorem read_path (len : Half) (cmd : Byte) (s : State) : Path readKinds s (read len cmd s) := by
  have start : Path readKinds s (startRead s) := respond_path (by decide) rfl
  exact ((start.trans (.edit _ (setSlot 0 (startRead s)) rfl)).trans (slotLoop_path _ _ _ _)).trans (afterSlots_path _ _)

/-! ENABLE, DISABLE and TRANSFER (R190 to R192). -/

def powerKinds : List Kind := [.read .control, .write .control, .mask]

theorem setIrqMask_path (v : Bool) (s : State) : Path powerKinds s (setIrqMask v s) :=
  .does (k := .mask) (by decide) ⟨v, rfl⟩

theorem unmaskLine_path (s : State) : Path powerKinds s (unmaskLine s) :=
  ((Path.edit s (goto .n1 s) rfl).trans (setIrqMask_path false (goto .n1 s))).trans (.work rfl)

theorem enable_path (s : State) : Path powerKinds s (enable s) :=
  ((Path.edit s (goto .n0 s) rfl).trans ((clearControl_path _ (goto .n0 s)).mono (by decide))).trans (unmaskLine_path _)

theorem maskLine_path (s : State) : Path powerKinds s (maskLine s) :=
  ((Path.edit s (goto .b2 s) rfl).trans (setIrqMask_path true (goto .b2 s))).trans (.work rfl)

theorem powerDown_path (s : State) : Path powerKinds s (powerDown s) :=
  ((Path.edit s (goto .b1 s) rfl).trans ((setControl_path _ (goto .b1 s)).mono (by decide))).trans (maskLine_path _)

def disableKinds : List Kind := [.read .status2, .delay, .read .control, .write .control, .mask]

theorem disableAfterCheck_path (s : State) : Path disableKinds s (disableAfterCheck s) := by
  unfold disableAfterCheck; split
  · exact (powerDown_path s).mono (by decide)
  · exact .refl s

theorem disable_path (s : State) : Path disableKinds s (disable s) :=
  ((Path.edit s (goto .b0 s) rfl).trans ((call_path .b0 waitIdle_path (goto .b0 s)).mono (by decide))).trans (disableAfterCheck_path _)

/-- READ and FINISH inside TRANSFER. -/
def readPhaseKinds : List Kind :=
  [.read .status2, .read .rdData, .delay, .respond, .log, .read .status1, .write .status1, .read .error, .write .error,
    .read .control, .write .control]

theorem concludeTransfer_path (s : State) : Path K s (concludeTransfer s) := by
  unfold concludeTransfer; split
  · exact .work rfl
  · exact .refl s

theorem transferFromT4_path (s : State) : Path readPhaseKinds s (transferFromT4 s) :=
  ((Path.edit s (goto .t4 s) rfl).trans ((call_path .t4 finish_path (goto .t4 s)).mono (by decide))).trans (concludeTransfer_path _)

theorem afterRead_path (s : State) : Path readPhaseKinds s (afterRead s) := by
  unfold afterRead; split
  · exact transferFromT4_path s
  · exact .refl s

theorem readPhase_path (s : State) : Path readPhaseKinds s (readPhase s) := by
  unfold readPhase; split
  · exact (Path.edit s (goto .t3 s) rfl).trans
      ((call_path .t3 (fun t => read_path _ _ t) (goto .t3 s)).mono (by decide))
  · exact .work rfl

theorem afterWrite_path (s : State) : Path readPhaseKinds s (afterWrite s) := by
  unfold afterWrite; split
  · exact (readPhase_path s).trans (afterRead_path _)
  · exact .refl s

/-- Everything an operation but the latch of the request, the result port and the mask may do. -/
def transferKinds : List Kind :=
  [.read .status1, .read .status2, .read .control, .read .error, .read .rdData, .write .control, .write .wrData,
    .write .status1, .write .error, .write .btLow, .write .btHigh, .bitrate, .delay, .log, .take, .count, .respond]

theorem transferFromT2_leads (s : State) : Leads transferKinds s (transferFromT2 s) :=
  Leads.andThen (.after (.edit s (goto .t2 s) rfl) (Leads.callOrStop ((write_leads _).mono (by decide))))
    fun _ _ => .next ((afterWrite_path _).mono (by decide))

theorem transfer_leads (r : Request) (s : State) : Leads (.request :: transferKinds) s (transfer r s) := by
  unfold transfer; split
  · exact .after ((Path.edit s (goto .t0 s) rfl).trans (.does (k := .request) (by decide) ⟨r, rfl⟩))
      ((transferFromT2_leads _).mono (by decide))
  · exact fun _ e => by cases e

/-! The end of an operation, and the handler. -/

def endKinds : List Kind := [.put, .forget]

theorem settleResponse_path (s : State) : Path endKinds s (settleResponse s) := by
  unfold settleResponse; split
  · exact .refl s
  · exact .does (k := .forget) (by decide) rfl

theorem endInternal_path (s : State) : Path endKinds s (toIdle (settleResponse s)) :=
  (settleResponse_path s).trans (.work rfl)

theorem endPublic_path (bytes : List Byte) (s : State) : Path endKinds s (endPublic bytes s) :=
  (Path.does (k := .put) (by decide) ⟨bytes, rfl⟩).trans (endInternal_path (putResult bytes s))

theorem endOperation_path (op : EngOp) (s : State) : Path endKinds s (endOperation op s) := by
  cases op with
  | configure => exact (Path.edit s (returnOk s) rfl).trans (endPublic_path _ (returnOk s))
  | enable | disable | transfer => exact endPublic_path _ s
  | recover => exact .work rfl
  | waitIdle | write | waitPoll | waitEvent | read | finish => exact endInternal_path s

theorem handlerRun_path (k : Nat) (s : State) : Path K s (handlerRun k s) := by
  induction k generalizing s with
  | zero => exact .refl s
  | succ k ih =>
    have step : Path K s (isrStep s) := .agent .isr s
    have later : Path K s (others (isrStep s)) := step.trans (others_path _)
    unfold handlerRun; split
    · exact .refl s
    · split
      · exact step
      · split
        · exact later
        · exact later.trans (ih _)

/-! From any step label (R19). -/

/-- Every kind an operation of the engine may use. -/
def engineKinds : List Kind := .mask :: .request :: .put :: .forget :: transferKinds

theorem waitEventOfRequest_path (s : State) : Path eventKinds s (waitEventOfRequest s) := waitEvent_path _ s

theorem readAfterWait_path (s : State) : Path readKinds s (readAfterWait s) :=
  (takeByte_path _ _ (slotLoop_path _ _ _) s).trans (afterSlots_path _ _)

theorem readFromD6_path (s : State) : Path readKinds s (readFromD6 s) :=
  (keepByte_path _ _ (slotLoop_path _ _ _) s).trans (afterSlots_path _ _)

theorem readFromD1_path (s : State) : Path readKinds s (readFromD1 s) := by
  unfold readFromD1; split
  · exact ((awaitSlot_path s).mono (by decide)).trans (readAfterWait_path _)
  · exact readFromD7_path _ s

theorem Leads.state {L : List Kind} {s t : State} (h : Path K s t) (sub : K ⊆ L) : Leads L s (.next t) :=
  .next (h.mono sub)

/-- The rest of an operation from a label of it. -/
theorem runFrom_leads (l : Label) {s : State} (h : OperandValid s) : Leads engineKinds s (runFrom l s) := by
  cases l with
  | c0 => exact (configure_leads _ s).mono (by decide)
  | c1 => exact .state (configureFromC1_path h) (by decide)
  | c2 => exact .state (configureFromC2_path h) (by decide)
  | c3 => exact .state (configureFromC3_path h) (by decide)
  | c4 => exact .state (configureFromC4_path h) (by decide)
  | c5 => exact .state (configureFromC5_path h) (by decide)
  | c6 => exact .state (finishConfigure_path h) (by decide)
  | c7 => exact .next (.refl s)
  | i0 => exact .state (waitIdle_path s) (by decide)
  | i1 | i6 => exact .state ((idlePoll_path s).trans (idleDecide_path (idleLoop_path _) _)) (by decide)
  | i2 => exact .state (idleDecide_path (idleLoop_path _) s) (by decide)
  | i3 => exact .state ((idleDelay_path s).trans (idleLoop_path _ _)) (by decide)
  | i4 => exact .state ((Path.edit s (idleCount s) rfl).trans (idleLoop_path _ (idleCount s))) (by decide)
  | i5 => exact .state ((Path.edit s (idleTest s) rfl).trans (idleLoop_path _ (idleTest s))) (by decide)
  | w1 => exact (write_leads s).mono (by decide)
  | w2 => exact (writeFromW2_leads s).mono (by decide)
  | w3 => exact (writeFromW3_leads s).mono (by decide)
  | w4 => exact (writeFromW4_leads s).mono (by decide)
  | w5 => exact (writeFromW5_leads s).mono (by decide)
  | w6 => exact .after ((trigger_path s).mono (by decide)) ((writeFromW7_leads _).mono (by decide))
  | w7 => exact (writeFromW7_leads s).mono (by decide)
  | p0 => exact .state (waitPoll_path s) (by decide)
  | p1 | p6 => exact .state ((txPoll_path s).trans (txDecide_path (pollLoop_path _) _)) (by decide)
  | p2 => exact .state (txDecide_path (pollLoop_path _) s) (by decide)
  | p3 => exact .state ((txDelay_path s).trans (pollLoop_path _ _)) (by decide)
  | p4 => exact .state ((Path.edit s (txCount s) rfl).trans (pollLoop_path _ (txCount s))) (by decide)
  | p5 => exact .state ((Path.edit s (txTest s) rfl).trans (pollLoop_path _ (txTest s))) (by decide)
  | e0 => exact .state (waitEventOfRequest_path s) (by decide)
  | e1 => exact .state (decideEvent_path s) (by decide)
  | e2 => exact .state (expireWait_path s) (by decide)
  | d0 => exact .state (read_path _ _ s) (by decide)
  | d1 => exact .state (readFromD1_path s) (by decide)
  | d2 => exact .after ((awaitSlot_path s).mono (by decide)) (.state (readAfterWait_path _) (by decide))
  | d3 =>
    exact .after (((rxPoll_path s).trans (rxDecide_path (slotWait_path _) _)).mono (by decide))
      (.state (readAfterWait_path _) (by decide))
  | d4 => exact .after ((rxDecide_path (slotWait_path _) s).mono (by decide)) (.state (readAfterWait_path _) (by decide))
  | d5 => exact .state ((Path.edit s (returnOk s) rfl).trans ((popSlot_path (returnOk s)).trans (readFromD6_path _))) (by decide)
  | d6 => exact .state ((Path.edit s (returnOk s) rfl).trans (readFromD6_path (returnOk s))) (by decide)
  | d7 => exact .state (readFromD7_path _ s) (by decide)
  | d8 => exact .state (readFromD8_path s) (by decide)
  | d9 | t5 => exact .next (.work rfl)
  | f0 => exact .state (finish_path s) (by decide)
  | f1 => exact .state (((clearEof_path s).mono (by decide)).trans (finishFromF2_path _)) (by decide)
  | f2 => exact .state (finishFromF2_path s) (by decide)
  | f3 => exact .state (judge_path s) (by decide)
  | f4 => exact .state (finishFromF4_path s) (by decide)
  | f5 => exact .state (((clearErrors_path s).mono (L := judgeKinds) (by decide)).trans ((finishFromF6_path _).mono (by decide))) (by decide)
  | f6 => exact .state (finishFromF6_path s) (by decide)
  | f7 => exact .next (failFinish_path s)
  | v0 => exact .state (recoverFifo_path s) (by decide)
  | v1 => exact (recoverFull_leads _ s).mono (by decide)
  | v2 => exact (recoverFromV2_leads _ s).mono (by decide)
  | v3 => exact .after ((releaseReset_path s).mono (by decide)) ((reconfigure_leads _).mono (by decide))
  | v4 => exact (reconfigure_leads s).mono (by decide)
  | v5 => exact (reapplyBitrate_leads s).mono (by decide)
  | t0 => exact (transfer_leads _ s).mono (by decide)
  | t1 => exact .after (.does (k := .request) (by decide) ⟨_, rfl⟩) ((transferFromT2_leads _).mono (by decide))
  | t2 => exact (transferFromT2_leads s).mono (by decide)
  | t3 => exact .state (((Path.edit s (returnOk s) rfl).trans (readPhase_path (returnOk s))).trans (afterRead_path _)) (by decide)
  | t4 => exact .state (transferFromT4_path s) (by decide)
  | n0 => exact .state (enable_path s) (by decide)
  | n1 => exact .state (unmaskLine_path s) (by decide)
  | n2 | b3 => exact .next (.work rfl)
  | b0 => exact .state (disable_path s) (by decide)
  | b1 => exact .state (powerDown_path s) (by decide)
  | b2 => exact .state (maskLine_path s) (by decide)

/-- The rest of a caller after a call. -/
theorem afterCall_leads (c : CallSite) (s : State) : Leads engineKinds s (afterCall c s) := by
  cases c with
  | w5 => exact (transmit_leads s).mono (by decide)
  | w7Wait => exact (concludeWrite_leads s).mono (by decide)
  | w7Recover => exact .next (.work rfl)
  | d8 => exact .next (concludeRead_path s)
  | b0 => exact .state (disableAfterCheck_path s) (by decide)
  | t2 => exact .state (afterWrite_path s) (by decide)
  | t3 => exact .state (afterRead_path s) (by decide)
  | t4 => exact .next (concludeTransfer_path s)
  | f6 => exact .next (failFinish_path s)
  | v5 => exact .next (.refl s)

/-! Every operation of the engine. -/

/-- What an operation of the engine may do before it ends. -/
def kindsOf : Instr → List Kind
  | .configure _ => configureKinds
  | .enable => powerKinds
  | .disable => disableKinds
  | .transfer _ => .request :: transferKinds
  | .waitIdle => idleKinds
  | .write => writeKinds
  | .waitPoll => pollKinds
  | .waitEvent => eventKinds
  | .read => readKinds
  | .finish => finishKinds
  | .recoverFifo => controlKinds
  | .recoverFull => recoverKinds
  | _ => []

theorem runOperation_leads {op : EngOp} {f : State → Host.Outcome State Fault Refusal} {s : State}
    (h : Leads K s (f s)) : Leads (K ++ endKinds) s (runOperation op f s) := fun _ e => by
  obtain ⟨-, t, ht, rfl⟩ := runOperation_next e
  exact ((h t ht).mono (List.subset_append_left _ _)).trans ((endOperation_path op t).mono (List.subset_append_right _ _))

theorem runOperation_total_leads {op : EngOp} {body : State → State} {s : State} (h : Path K s (body s)) :
    Leads (K ++ endKinds) s (runOperation op (fun t => .next (body t)) s) :=
  runOperation_leads (f := fun t => .next (body t)) (.next h)

/-- Every operation but a register access is a path of its kinds and of the end of an operation. -/
theorem exec_leads {i : Instr} (h : isRegister i = false) (s : State) : Leads (kindsOf i ++ endKinds) s (exec i s) := by
  cases i with
  | configure br => exact runOperation_leads (configure_leads br s)
  | enable => exact runOperation_total_leads (enable_path s)
  | disable => exact runOperation_total_leads (disable_path s)
  | transfer r => exact runOperation_leads (transfer_leads r s)
  | waitIdle => exact runOperation_total_leads (waitIdle_path s)
  | write => exact runOperation_leads (write_leads s)
  | waitPoll => exact runOperation_total_leads (waitPoll_path s)
  | waitEvent => exact runOperation_total_leads (waitEventOfRequest_path s)
  | read => exact runOperation_total_leads (read_path _ _ s)
  | finish => exact runOperation_total_leads (finish_path s)
  | recoverFifo => exact runOperation_total_leads (recoverFifo_path s)
  | recoverFull => exact runOperation_leads (recoverFull_leads _ s)
  | irqHandler => exact .next (handlerRun_path 6 s)
  | _ => cases h

end Sys2Proof.Machine
end

section
/-! PROOF. Frames and the invariant of a step: what the kinds of a path leave unwritten is kept (10_state.md R12, R13, R28; 20_memory.md R53), and a step ends in a consistent state with the engine idle (R194, R236). -/

namespace Sys2Proof.Machine

variable {K : List Kind}

/-- A register read uses a free value at `WR_DATA` and at `RD_DATA` only. -/
theorem readReg_draws {r : Reg} (h1 : r ≠ .wrData) (h2 : r ≠ .rdData) (s : State) :
    (readReg r s).2.draws = s.draws := by
  cases r with
  | wrData => exact absurd rfl h1
  | rdData => exact absurd rfl h2
  | _ => rfl

/-- Only `CONTROL` writes the power and reset bits. -/
theorem writeReg_power {r : Reg} (h : r ≠ .control) (v : Byte) (s : State) :
    (writeReg r v s).ctl.pd = s.ctl.pd ∧ (writeReg r v s).ctl.rst = s.ctl.rst ∧
    (writeReg r v s).ctl.frst = s.ctl.frst ∧ (writeReg r v s).draws = s.draws := by
  cases r with
  | control => exact absurd rfl h
  | wrData => rw [writeReg, writeWrData_eq]; exact ⟨rfl, rfl, rfl, rfl⟩
  | _ => exact ⟨rfl, rfl, rfl, rfl⟩

/-- Only `CONTROL` and the bit-timing registers write the bit timing. -/
theorem writeReg_timing {r : Reg} (h1 : r ≠ .control) (h2 : r ≠ .btLow) (h3 : r ≠ .btHigh) (v : Byte) (s : State) :
    (writeReg r v s).ctl.btLow = s.ctl.btLow ∧ (writeReg r v s).ctl.btHigh = s.ctl.btHigh := by
  cases r with
  | control => exact absurd rfl h1
  | btLow => exact absurd rfl h2
  | btHigh => exact absurd rfl h3
  | wrData => rw [writeReg, writeWrData_eq]; exact ⟨rfl, rfl⟩
  | _ => exact ⟨rfl, rfl⟩

/-- What a path of the kinds `K` keeps: each field whose writers are not among them. -/
structure Kept (K : List Kind) (a b : State) : Prop where
  inIsr : b.inIsr = a.inIsr
  bitrate : .bitrate ∉ K → b.eng.bitrate = a.eng.bitrate
  tocnt : .count ∉ K → b.eng.tocnt = a.eng.tocnt
  req : .request ∉ K → b.eng.req = a.eng.req
  rsp : .respond ∉ K ∧ .request ∉ K ∧ .forget ∉ K → b.eng.rsp = a.eng.rsp
  irqMask : .mask ∉ K → b.irqMask = a.irqMask
  results : .put ∉ K → b.results = a.results
  intEn1 : .write .intEn1 ∉ K → b.ctl.intEn1 = a.ctl.intEn1
  intEn2 : .write .intEn2 ∉ K → b.ctl.intEn2 = a.ctl.intEn2
  draws : .read .wrData ∉ K ∧ .read .rdData ∉ K ∧ .write .control ∉ K ∧ .forget ∉ K → b.draws = a.draws
  power : .write .control ∉ K → b.ctl.pd = a.ctl.pd ∧ b.ctl.rst = a.ctl.rst ∧ b.ctl.frst = a.ctl.frst
  timing : .write .control ∉ K ∧ .write .btLow ∉ K ∧ .write .btHigh ∉ K →
    b.ctl.btLow = a.ctl.btLow ∧ b.ctl.btHigh = a.ctl.btHigh

theorem Kept.refl (s : State) : Kept K s s :=
  ⟨rfl, fun _ => rfl, fun _ => rfl, fun _ => rfl, fun _ => rfl, fun _ => rfl, fun _ => rfl, fun _ => rfl, fun _ => rfl,
    fun _ => rfl, fun _ => ⟨rfl, rfl, rfl⟩, fun _ => ⟨rfl, rfl⟩⟩

theorem Kept.trans {a b c : State} (h : Kept K a b) (k : Kept K b c) : Kept K a c where
  inIsr := k.inIsr.trans h.inIsr
  bitrate n := (k.bitrate n).trans (h.bitrate n)
  tocnt n := (k.tocnt n).trans (h.tocnt n)
  req n := (k.req n).trans (h.req n)
  rsp n := (k.rsp n).trans (h.rsp n)
  irqMask n := (k.irqMask n).trans (h.irqMask n)
  results n := (k.results n).trans (h.results n)
  intEn1 n := (k.intEn1 n).trans (h.intEn1 n)
  intEn2 n := (k.intEn2 n).trans (h.intEn2 n)
  draws n := (k.draws n).trans (h.draws n)
  power n := ⟨(k.power n).1.trans (h.power n).1, (k.power n).2.1.trans (h.power n).2.1,
    (k.power n).2.2.trans (h.power n).2.2⟩
  timing n := ⟨(k.timing n).1.trans (h.timing n).1, (k.timing n).2.trans (h.timing n).2⟩

/-- The moves of the other agents write nothing that software owns. -/
theorem SameForSoftware.kept {a b : State} (h : SameForSoftware a b) : Kept K a b where
  inIsr := h.inIsr
  bitrate _ := congrArg Engine.bitrate h.eng
  tocnt _ := congrArg Engine.tocnt h.eng
  req _ := congrArg Engine.req h.eng
  rsp _ := congrArg Engine.rsp h.eng
  irqMask _ := h.irqMask
  results _ := h.results
  intEn1 _ := h.intEn1
  intEn2 _ := h.intEn2
  draws _ := h.draws
  power _ := ⟨h.pd, h.rst, h.frst⟩
  timing _ := ⟨h.btLow, h.btHigh⟩

theorem shared_kept {a b : State} (h : shared b = shared a) : Kept K a b where
  inIsr := (congrArg State.inIsr h :)
  bitrate _ := (congrArg (fun u => u.eng.bitrate) h :)
  tocnt _ := (congrArg (fun u => u.eng.tocnt) h :)
  req _ := (congrArg (fun u => u.eng.req) h :)
  rsp _ := (congrArg (fun u => u.eng.rsp) h :)
  irqMask _ := (congrArg State.irqMask h :)
  results _ := (congrArg State.results h :)
  intEn1 _ := (congrArg (fun u => u.ctl.intEn1) h :)
  intEn2 _ := (congrArg (fun u => u.ctl.intEn2) h :)
  draws _ := (congrArg State.draws h :)
  power _ := ⟨(congrArg (fun u => u.ctl.pd) h :), (congrArg (fun u => u.ctl.rst) h :),
    (congrArg (fun u => u.ctl.frst) h :)⟩
  timing _ := ⟨(congrArg (fun u => u.ctl.btLow) h :), (congrArg (fun u => u.ctl.btHigh) h :)⟩

theorem regRead_kept {r : Reg} (mem : .read r ∈ K) (s : State) : Kept K s (regRead .eng r s) where
  inIsr := regRead_inIsr _ _ _
  bitrate _ := by rw [regRead_eng]
  tocnt _ := by rw [regRead_eng]
  req _ := by rw [regRead_eng]
  rsp _ := by rw [regRead_eng]
  irqMask _ := regRead_irqMask _ _ _
  results _ := regRead_results _ _ _
  intEn1 _ := by rw [regRead_ctl]
  intEn2 _ := by rw [regRead_ctl]
  draws n := readReg_draws (fun e => n.1 (e ▸ mem)) (fun e => n.2.1 (e ▸ mem)) s
  power _ := by rw [regRead_ctl]; exact ⟨rfl, rfl, rfl⟩
  timing _ := by rw [regRead_ctl]; exact ⟨rfl, rfl⟩

theorem regWrite_kept {r : Reg} (mem : .write r ∈ K) (v : Byte) (s : State) : Kept K s (regWrite .eng r v s) := by
  refine ⟨regWrite_inIsr _ _ _ _, ?_, ?_, ?_, ?_, fun _ => regWrite_irqMask _ _ _ _,
    fun _ => regWrite_results _ _ _ _, fun n => ?_, fun n => ?_, fun n => ?_, fun n => ?_, fun n => ?_⟩
  · rw [regWrite_eng]; exact fun _ => rfl
  · rw [regWrite_eng]; exact fun _ => rfl
  · rw [regWrite_eng]; exact fun _ => rfl
  · rw [regWrite_eng]; exact fun _ => rfl
  · by_cases h : r = .intEn2
    · subst h; rfl
    · exact (writeReg_intEn r v s (fun e => n (e ▸ mem)) h).1
  · by_cases h : r = .intEn1
    · subst h; rfl
    · exact (writeReg_intEn r v s h (fun e => n (e ▸ mem))).2
  · exact (writeReg_power (fun e => n.2.2.1 (e ▸ mem)) v s).2.2.2
  · obtain ⟨pd, rst, frst, -⟩ := writeReg_power (fun e => n (e ▸ mem)) v s
    exact ⟨pd, rst, frst⟩
  · exact writeReg_timing (fun e => n.1 (e ▸ mem)) (fun e => n.2.1 (e ▸ mem)) (fun e => n.2.2 (e ▸ mem)) v s

theorem does_kept {k : Kind} (mem : k ∈ K) {s t : State} (h : Does k s t) : Kept K s t := by
  cases k with
  | read r => cases h; exact regRead_kept mem s
  | write r => obtain ⟨v, rfl⟩ := h; exact regWrite_kept mem v s
  | delay => obtain ⟨n, rfl | rfl⟩ := h <;> exact { Kept.refl s with }
  | log => obtain ⟨x, rfl⟩ := h; exact { Kept.refl s with }
  | take => cases h; exact { Kept.refl s with }
  | respond => obtain ⟨x, rfl⟩ := h; exact { Kept.refl s with rsp := fun n => absurd mem n.1 }
  | count => obtain ⟨n, rfl⟩ := h; exact { Kept.refl s with tocnt := fun n => absurd mem n }
  | bitrate => obtain ⟨br, -, rfl⟩ := h; exact { Kept.refl s with bitrate := fun n => absurd mem n }
  | request =>
    obtain ⟨r, rfl⟩ := h
    exact { Kept.refl s with req := fun n => absurd mem n, rsp := fun n => absurd mem n.2.1 }
  | mask =>
    obtain ⟨v, rfl⟩ := h
    unfold setIrqMask; split
    · exact { Kept.refl s with irqMask := fun n => absurd mem n }
    · exact Kept.refl s
  | put => obtain ⟨x, rfl⟩ := h; exact { Kept.refl s with results := fun n => absurd mem n }
  | forget =>
    cases h
    exact { Kept.refl s with rsp := fun n => absurd mem n.2.2, draws := fun n => absurd mem n.2.2.2 }

/-- A path keeps what its kinds do not write. -/
theorem Path.kept {s t : State} (h : Path K s t) : Kept K s t :=
  h.lift (R := Kept K) Kept.refl (fun _ _ _ => Kept.trans) (fun _ _ => shared_kept)
    (fun m s => (agentStep_same m s).kept) (fun _ s => { Kept.refl s with }) (fun _ mem _ _ => does_kept mem)
    (fun _ s => { Kept.refl s with }) (fun _ s => { Kept.refl s with })

/-! The invariant of a step. -/

/-- The handler moves as every other agent does. -/
theorem handlerRun_same (k : Nat) (s : State) : SameForSoftware s (handlerRun k s) := by
  induction k generalizing s with
  | zero => exact .rfl s
  | succ k ih =>
    have step := isrStep_same s
    have later := step.trans (others_same (isrStep s))
    unfold handlerRun; split
    · exact .rfl s
    · split
      · exact step
      · split
        · exact later
        · exact later.trans (ih _)

/-- What is no register access and no operation of the engine is the handler. -/
theorem instr_cases (i : Instr) : isRegister i = true ∨ isEngineOperation i = true ∨ i = .irqHandler := by
  cases i with
  | irqHandler => exact .inr (.inr rfl)
  | configure | enable | disable | transfer | waitIdle | write | waitPoll | waitEvent | read | finish | recoverFifo
  | recoverFull => exact .inr (.inl rfl)
  | _ => exact .inl rfl

/-- A register access keeps the invariant and the engine. -/
theorem exec_register_next {i : Instr} (reg : isRegister i = true) {s t : State} (h : exec i s = .next t) :
    (Consistent s → Consistent t) ∧ t.eng = s.eng ∧ t.cfg = s.cfg ∧ t.irqMask = s.irqMask := by
  obtain ⟨r, rfl⟩ | ⟨r, v, rfl⟩ := eq_access_of_isRegister reg
  · cases (exec_readInstr r s).symm.trans h
    exact ⟨regRead_consistent .host r, regRead_eng _ _ _, regRead_cfg _ _ _, regRead_irqMask _ _ _⟩
  · cases (exec_writeInstr r v s).symm.trans h
    exact ⟨regWrite_consistent .host r v, regWrite_eng _ _ _ _, regWrite_cfg _ _ _ _, regWrite_irqMask _ _ _ _⟩

/-- An operation of the engine runs from `IDLE` to `IDLE` (R194). -/
theorem exec_engine_eq {i : Instr} (op : isEngineOperation i = true) :
    ∃ (o : EngOp) (f : State → Host.Outcome State Fault Refusal), ∀ s, exec i s = runOperation o f s := by
  cases i with
  | configure br => exact ⟨_, _, fun _ => rfl⟩
  | enable => exact ⟨_, _, fun _ => rfl⟩
  | disable => exact ⟨_, _, fun _ => rfl⟩
  | transfer r => exact ⟨_, _, fun _ => rfl⟩
  | waitIdle => exact ⟨_, _, fun _ => rfl⟩
  | write => exact ⟨_, _, fun _ => rfl⟩
  | waitPoll => exact ⟨_, _, fun _ => rfl⟩
  | waitEvent => exact ⟨_, _, fun _ => rfl⟩
  | read => exact ⟨_, _, fun _ => rfl⟩
  | finish => exact ⟨_, _, fun _ => rfl⟩
  | recoverFifo => exact ⟨_, _, fun _ => rfl⟩
  | recoverFull => exact ⟨_, _, fun _ => rfl⟩
  | _ => cases op

/-- Settles O11: every operation of the engine tests `phase` first. -/
theorem busyEngineRefusesOperations : Obligations.BusyEngineRefusesOperations := by
  intro i s op busy
  obtain ⟨o, f, run⟩ := exec_engine_eq op
  rw [run, runOperation_busy busy]

/-- An operation that ends leaves an idle engine idle. -/
theorem exec_phase {i : Instr} {s t : State} (h : exec i s = .next t) (idle : s.eng.phase = .idle) :
    t.eng.phase = .idle := by
  obtain reg | op | rfl := instr_cases i
  · obtain ⟨-, eng, -⟩ := exec_register_next reg h
    rw [eng]; exact idle
  · obtain ⟨o, f, run⟩ := exec_engine_eq op
    obtain ⟨-, u, -, rfl⟩ := runOperation_next ((run s).symm.trans h)
    exact endOperation_phase o u
  · cases h
    rw [(handlerRun_same 6 s).eng]; exact idle

/-- Every operation keeps the invariant. -/
theorem exec_inv {i : Instr} {s t : State} (inv : Inv s) (h : exec i s = .next t) : Inv t := by
  cases reg : isRegister i with
  | true =>
    obtain ⟨consistent, eng, -⟩ := exec_register_next reg h
    exact ⟨consistent inv.consistent, exec_phase h inv.engineIdle, by rw [eng]; exact inv.noCalls⟩
  | false =>
    have path := exec_leads reg s t h
    exact ⟨path.consistent inv.consistent, exec_phase h inv.engineIdle, path.calls.trans inv.noCalls⟩

/-- The engine's turn keeps the invariant: an idle engine with nothing presented stays, else it executes. -/
theorem engineStep_inv {s t : State} (inv : Inv s) (h : engineStep s = .next t) : Inv t := by
  cases port : s.port with
  | none =>
    rw [engineStep_resume port, resume_idle inv.engineIdle] at h
    cases h; exact inv
  | some x =>
    cases decoded : decodeIssue s.cfg.layout x with
    | none => rw [engineStep_illegal port decoded] at h; cases h
    | some i =>
      rw [engineStep_decoded port decoded] at h
      exact exec_inv (s := { s with port := none }) ⟨{ inv.consistent with }, inv.engineIdle, inv.noCalls⟩ h

/-- Settles O53: a step is another agent's move, which keeps the invariant move by move, or the engine's turn, which is a path. -/
theorem stepKeepsTheInvariant : Obligations.StepKeepsTheInvariant := by
  intro s t inv h
  have used (l : List Turn) : Inv { s with turns := l } := ⟨{ inv.consistent with }, inv.engineIdle, inv.noCalls⟩
  cases order : s.turns with
  | nil => rw [step_quiet order] at h; exact engineStep_inv inv h
  | cons m rest =>
    by_cases turn : m = .eng
    · rw [step_eng (turn ▸ order)] at h
      exact engineStep_inv (used rest) h
    · have start : s = { s with turns := m :: rest } := by rw [← order]
      rw [start, step_other turn] at h
      cases h
      have eng := (agentStep_same m { s with turns := rest }).eng
      exact ⟨agentStep_consistent m (used rest).consistent, by rw [eng]; exact inv.engineIdle,
        by rw [eng]; exact inv.noCalls⟩

/-! Admission. -/

/-- Settles O12: CONFIGURE at an idle engine tests `validBitrate`, which is the rule's condition. -/
theorem configureRefusesInvalidBitrate : Obligations.ConfigureRefusesInvalidBitrate := by
  intro br s idle
  have run : exec (.configure br) s = andThen (configure br s) fun u => .next (endOperation .configure u) :=
    runOperation_idle idle
  refine ⟨fun admitted => ?_, fun invalid => ?_⟩
  · rw [run, configure, if_pos ((validBitrate_iff _ _).mpr admitted)]; exact ⟨_, rfl⟩
  · rw [run, configure, if_neg (fun valid => invalid ((validBitrate_iff _ _).mp valid))]; rfl

/-- Settles O41: TRANSFER at an idle engine tests `requestOk`, which is the rule's condition. -/
theorem transferRefusesMalformedRequest : Obligations.TransferRefusesMalformedRequest := by
  intro r s idle malformed
  have run : exec (.transfer r) s = andThen (transfer r s) fun u => .next (endOperation .transfer u) :=
    runOperation_idle idle
  rw [run, transfer, if_neg (fun wellFormed => malformed ((requestOk_iff _ _).mp wellFormed))]; rfl

end Sys2Proof.Machine
end

section
/-! PROOF. CONFIGURE, ENABLE, DISABLE and RECOVER under any schedule (41_config.md, 47_public_ops.md, 46_finish_recover.md section 2): the power and reset bits and the bit timing through each read-modify-write of `CONTROL`, and the controller left blank by a reset. -/

namespace Sys2Proof.Machine

variable {K : List Kind}

/-! How an operation ends. -/

/-- The response after the end of an operation that has a result (10_state.md R16). -/
theorem settleResponse_eq (s : State) : settleResponse s = { s with
    eng := { s.eng with rsp := if s.eng.res = .ok then s.eng.rsp else Config.freeResponse s.draws }
    draws := s.draws + if s.eng.res = .ok then 0 else 1 } := by
  unfold settleResponse
  by_cases ok : s.eng.res = .ok
  · rw [if_pos ((returnedOk_iff s).mpr ok), if_pos ok, if_pos ok]; rfl
  · rw [if_neg (fun h => ok ((returnedOk_iff s).mp h)), if_neg ok, if_neg ok]; rfl

/-- The end of an internal operation that has a result. -/
theorem endInternal_eq (s : State) : toIdle (settleResponse s) = { s with
    eng := { s.eng with
      rsp := if s.eng.res = .ok then s.eng.rsp else Config.freeResponse s.draws, phase := .idle }
    draws := s.draws + if s.eng.res = .ok then 0 else 1 } := by
  rw [settleResponse_eq]; rfl

/-- The end of a public operation. -/
theorem endPublic_eq (bytes : List Byte) (s : State) : endPublic bytes s = { s with
    eng := { s.eng with
      rsp := if s.eng.res = .ok then s.eng.rsp else Config.freeResponse s.draws, phase := .idle }
    draws := s.draws + (if s.eng.res = .ok then 0 else 1), results := s.results ++ bytes } := by
  rw [endPublic, settleResponse_eq]; rfl

/-- An operation whose body always ends, at an idle engine. -/
theorem runOperation_total {op : EngOp} {body : State → State} {s : State} (idle : s.eng.phase = .idle) :
    runOperation op (fun t => .next (body t)) s = .next (endOperation op (body s)) :=
  runOperation_idle idle

/-! The power and reset bits and the bit timing through a read-modify-write. -/

/-- The bit timing after a read-modify-write that sets no reset bit. -/
theorem setControl_timing {field : Layout → Fin 8} {s : State} (rst : s.ctl.rst = false)
    (other : field s.cfg.layout ≠ s.cfg.layout.rst) :
    (setControl field s).ctl.btLow = s.ctl.btLow ∧ (setControl field s).ctl.btHigh = s.ctl.btHigh := by
  have noReset : hasBit (controlByte s.cfg.layout s.ctl ||| bit (field s.cfg.layout)) (loadControl s).cfg.layout.rst = false := by
    simp [rst, other]
  have timing := writeControl_timing (s := loadControl s) noReset
  simp only [setControl, storeControlOr, store, others_btLow, others_btHigh, regWrite_ctl, writeReg, loadControl_eng,
    loadControl_cfg]
  exact ⟨timing.1.trans (by simp [loadControl]), timing.2.1.trans (by simp [loadControl])⟩

/-- The bit timing after a read-modify-write that leaves the controller out of reset. -/
theorem clearControl_timing {field : Layout → Fin 8} {s : State}
    (released : s.ctl.rst = false ∨ field s.cfg.layout = s.cfg.layout.rst) :
    (clearControl field s).ctl.btLow = s.ctl.btLow ∧ (clearControl field s).ctl.btHigh = s.ctl.btHigh := by
  have noReset : hasBit (controlByte s.cfg.layout s.ctl &&& ~~~bit (field s.cfg.layout)) (loadControl s).cfg.layout.rst = false := by
    rcases released with h | h <;> simp [h]
  have timing := writeControl_timing (s := loadControl s) noReset
  simp only [clearControl, storeControlAndNot, store, others_btLow, others_btHigh, regWrite_ctl, writeReg,
    loadControl_eng, loadControl_cfg]
  exact ⟨timing.1.trans (by simp [loadControl]), timing.2.1.trans (by simp [loadControl])⟩

/-- `PD` and `RST` are kept, and the bit timing when the controller is not in reset. -/
structure SamePower (a b : State) : Prop where
  pd : b.ctl.pd = a.ctl.pd
  rst : b.ctl.rst = a.ctl.rst
  timing : a.ctl.rst = false → b.ctl.btLow = a.ctl.btLow ∧ b.ctl.btHigh = a.ctl.btHigh

theorem SamePower.trans {a b c : State} (h : SamePower a b) (k : SamePower b c) : SamePower a c where
  pd := k.pd.trans h.pd
  rst := k.rst.trans h.rst
  timing out := by
    obtain ⟨low, high⟩ := h.timing out
    obtain ⟨low', high'⟩ := k.timing (h.rst.trans out)
    exact ⟨low'.trans low, high'.trans high⟩

/-- A path without a write of `CONTROL` or of the bit timing. -/
theorem Path.samePower {s t : State} (h : Path K s t)
    (none : .write .control ∉ K ∧ .write .btLow ∉ K ∧ .write .btHigh ∉ K) : SamePower s t :=
  ⟨(h.kept.power none.1).1, (h.kept.power none.1).2.1, fun _ => h.kept.timing none⟩

theorem setControl_samePower {field : Layout → Fin 8} (pd : ∀ l, field l ≠ l.pd) (rst : ∀ l, field l ≠ l.rst) (s : State) :
    SamePower s (setControl field s) := by
  obtain ⟨hpd, hrst, -⟩ := setControl_fields field s
  exact ⟨by simpa [pd] using hpd, by simpa [rst] using hrst, fun out => setControl_timing out (rst _)⟩

theorem clearControl_samePower {field : Layout → Fin 8} (pd : ∀ l, field l ≠ l.pd) (rst : ∀ l, field l ≠ l.rst) (s : State) :
    SamePower s (clearControl field s) := by
  obtain ⟨hpd, hrst, -⟩ := clearControl_fields field s
  exact ⟨by simpa [pd] using hpd, by simpa [rst] using hrst, fun out => clearControl_timing (.inl out)⟩

/-! CONFIGURE. -/

/-- CONFIGURE of a valid bitrate is its body. -/
theorem configure_valid {br : Word} {s : State} (valid : validBitrate s.cfg br = true) :
    configure br s = .next (configureFromC1 (latchOperand br s)) := if_pos valid

theorem configure_next {br : Word} {s t : State} (h : configure br s = .next t) :
    t = configureFromC1 (latchOperand br s) := by
  unfold configure at h; split at h <;> cases h
  rfl

/-- What CONFIGURE leaves in the engine's record: the operand as the bitrate, the rest as it was. -/
theorem configureFromC1_eng (s : State) :
    (configureFromC1 s).eng.bitrate = s.eng.newBitrate ∧ (configureFromC1 s).eng.res = s.eng.res := by
  simp [configureFromC1, configureFromC2, configureFromC4, finishConfigure, powerOn, storeDivHigh, storeDivLow,
    latchDiv, powerOff]

/-- CONFIGURE from C2: the reset bits are kept, `PD` is cleared, and out of reset the divisor stands in the two registers. -/
theorem configureFromC2_ctl (s : State) :
    (configureFromC2 s).ctl.pd = false ∧ (configureFromC2 s).ctl.rst = s.ctl.rst ∧
    (configureFromC2 s).ctl.frst = s.ctl.frst ∧
    (s.ctl.rst = false →
      (configureFromC2 s).ctl.btLow = divLow (divisor s.cfg s.eng.newBitrate) ∧
      (configureFromC2 s).ctl.btHigh = divHigh s.cfg (divisor s.cfg s.eng.newBitrate)) := by
  let a := storeDivLow (latchDiv s)
  let b := storeDivHigh a
  obtain ⟨pd, rst, frst⟩ := clearControl_fields Layout.pd (goto .c5 b)
  have lowPower : a.ctl.rst = s.ctl.rst ∧ a.ctl.frst = s.ctl.frst ∧ a.ctl.btLow = divLow (divisor s.cfg s.eng.newBitrate) := by
    simp [a, storeDivLow, store, writeReg, writeBtLow, latchDiv]
  have highPower : b.ctl.rst = a.ctl.rst ∧ b.ctl.frst = a.ctl.frst ∧ b.ctl.btLow = a.ctl.btLow ∧
      b.ctl.btHigh = divHigh s.cfg (divisor s.cfg s.eng.newBitrate) := by
    simp [b, storeDivHigh, store, writeReg, writeBtHigh, a, storeDivLow, latchDiv]
  refine ⟨pd.trans (by simp), rst.trans ?_, frst.trans ?_, fun out => ?_⟩
  · simp [highPower.1, lowPower.1]
  · simp [highPower.2.1, lowPower.2.1]
  · obtain ⟨low, high⟩ := clearControl_timing (field := Layout.pd) (s := goto .c5 b)
      (.inl (highPower.1.trans (lowPower.1.trans out)))
    exact ⟨low.trans (highPower.2.2.1.trans lowPower.2.2), high.trans highPower.2.2.2⟩

/-- C1 sets `PD` and keeps the reset bits. -/
theorem powerOff_ctl (s : State) :
    (powerOff s).ctl.rst = s.ctl.rst ∧ (powerOff s).ctl.frst = s.ctl.frst := by
  obtain ⟨-, rst, frst⟩ := setControl_fields Layout.pd (goto .c1 s)
  exact ⟨rst.trans (by simp), frst.trans (by simp)⟩

theorem configureFromC1_ctl (s : State) :
    (configureFromC1 s).ctl.pd = false ∧ (configureFromC1 s).ctl.rst = s.ctl.rst ∧
    (configureFromC1 s).ctl.frst = s.ctl.frst ∧
    (s.ctl.rst = false →
      (configureFromC1 s).ctl.btLow = divLow (divisor s.cfg s.eng.newBitrate) ∧
      (configureFromC1 s).ctl.btHigh = divHigh s.cfg (divisor s.cfg s.eng.newBitrate)) := by
  obtain ⟨rst, frst⟩ := powerOff_ctl s
  obtain ⟨pd, rst', frst', timing⟩ := configureFromC2_ctl (powerOff s)
  have operand : (powerOff s).cfg = s.cfg ∧ (powerOff s).eng.newBitrate = s.eng.newBitrate := by simp [powerOff]
  rw [operand.1, operand.2, rst] at timing
  exact ⟨pd, rst'.trans rst, frst'.trans frst, timing⟩

/-- Settles O13: C1 to C7 under any schedule, and the end of a public operation that returned `Ok`. -/
theorem configureProgramsTheDivisor : Obligations.ConfigureProgramsTheDivisor := by
  intro br s idle admitted
  have valid := (validBitrate_iff s.cfg br).mpr admitted
  let u := configureFromC1 (latchOperand br s)
  have run : exec (.configure br) s = .next (endPublic [codeOf (returnOk u)] (returnOk u)) := by
    refine (runOperation_idle (f := configure br) idle).trans ?_
    rw [configure_valid valid]; rfl
  have kept : Kept configureKinds s u := (configure_leads br s u (configure_valid valid)).kept
  have cfg : u.cfg = s.cfg := (configure_leads br s u (configure_valid valid)).cfg
  obtain ⟨bitrate, -⟩ := configureFromC1_eng (latchOperand br s)
  obtain ⟨pd, rst, frst, timing⟩ := configureFromC1_ctl (latchOperand br s)
  refine ⟨_, run, ?_⟩
  rw [endPublic_eq]
  refine ⟨bitrate, rfl, rfl, ?_, pd, rst, frst, timing, kept.tocnt (by decide), kept.req (by decide),
    kept.rsp (by decide), cfg, kept.irqMask (by decide), kept.intEn1 (by decide), kept.intEn2 (by decide)⟩
  change u.results ++ [u.cfg.errCode.ok] = _
  rw [kept.results (by decide), cfg]

/-! What is left of the controller by a reset. -/

/-- Both FIFOs empty, no frame and none to come; `clean` says when the status registers are clear too. -/
structure Blank (clean : Prop) (s : State) : Prop where
  wfifo : s.ctl.wfifo = []
  rfifo : s.ctl.rfifo = []
  frame : s.ctl.frame = { active := false, eofDone := false }
  txen : s.ctl.txen = false
  status : clean → s.ctl.eof = false ∧ s.ctl.error = 0

variable {clean : Prop}

theorem Blank.congr {a b : State} (blank : Blank clean a) (ctl : b.ctl = a.ctl) : Blank clean b := by
  constructor
  · rw [ctl]; exact blank.wfifo
  · rw [ctl]; exact blank.rfifo
  · rw [ctl]; exact blank.frame
  · rw [ctl]; exact blank.txen
  · rw [ctl]; exact blank.status

theorem handlerStep_blank {s : State} (blank : Blank clean s) : Blank clean (handlerStep s) := by
  unfold handlerStep; split
  · rw [handlerH0_eq]; exact { blank with }
  · rw [handlerH1_eq]; exact { blank with }
  · rw [handlerH2_eq]; exact { blank with }
  · rw [handlerH3_eq]
    exact { blank with status := fun c => ⟨by rw [(blank.status c).1]; rfl, (blank.status c).2⟩ }
  · rw [handlerH4_eq]; exact { blank with }
  · rw [handlerH5_eq]; exact { blank with }

/-- Without a frame and without `TXEN` the other agents leave the controller blank. -/
theorem agentStep_blank (m : Turn) {s : State} (blank : Blank clean s) : Blank clean (agentStep m s) := by
  have still : framing s.ctl = false := (framing_eq_false_iff _).mpr (.inr (by rw [blank.frame]))
  cases m with
  | eng | expire => exact blank
  | ctlStart => rw [agentStep, ctlStart_gated (.inr (.inl blank.txen))]; exact blank
  | ctlTx | ctlUnderrun | ctlEof | ctlEnd | ctlRx b | ctlErr e =>
    rw [frameMove_gated rfl Turn.noConfusion still]; exact blank
  | envErr e => rw [agentStep, envErr_gated e (.inl still)]; exact blank
  | envBus v => simp only [agentStep, envBus]; split <;> exact { blank with }
  | isr =>
    simp only [agentStep, isrStep]; split
    · exact handlerStep_blank blank
    · exact blank
  | host bytes => simp only [agentStep, offer]; split <;> exact { blank with }
  | platform w => simp only [agentStep, offer]; split <;> exact { blank with }

theorem othersFrom_blank (l : List Turn) {s : State} (blank : Blank clean s) : Blank clean (othersFrom l s) := by
  induction l generalizing s with
  | nil => exact { blank with }
  | cons m l ih =>
    by_cases h : m = .eng
    · subst h; exact { blank with }
    · rw [othersFrom_other h]; exact ih (agentStep_blank m blank)

theorem others_blank {s : State} (blank : Blank clean s) : Blank clean (others s) := othersFrom_blank s.turns blank

theorem goto_blank (l : Label) {s : State} (blank : Blank clean s) : Blank clean (goto l s) := { blank with }

theorem loadControl_blank {s : State} (blank : Blank clean s) : Blank clean (loadControl s) :=
  others_blank { blank with }

theorem delayUs_blank (n : Nat) {s : State} (blank : Blank clean s) : Blank clean (delayUs n s) :=
  others_blank { blank with }

theorem sleepMs_blank (n : Nat) {s : State} (blank : Blank clean s) : Blank clean (sleepMs n s) :=
  others_blank { blank with }

/-- A write of `CONTROL` without `TXEN` leaves a blank controller blank. -/
theorem writeControl_blank {v : Byte} {s : State} (blank : Blank clean s) (txen : hasBit v s.cfg.layout.txen = false) :
    Blank clean (writeControl v s) := by
  obtain ⟨-, -, -, htxen⟩ := writeControl_fields v s
  rw [txen, Bool.false_and, Bool.false_and] at htxen
  obtain ⟨heof, herror⟩ := writeControl_status v s
  have status : clean → (writeControl v s).ctl.eof = false ∧ (writeControl v s).ctl.error = 0 := fun c => by
    rw [heof, herror, (blank.status c).1, (blank.status c).2]; exact ⟨rfl, ite_self _⟩
  by_cases reset : hasBit v s.cfg.layout.rst = true ∨ hasBit v s.cfg.layout.frst = true
  · obtain ⟨wfifo, rfifo, frame, -⟩ := writeControl_under_reset reset
    exact ⟨wfifo, rfifo, frame, htxen, status⟩
  · simp only [not_or, Bool.not_eq_true] at reset
    rw [writeControl_plain v s reset.1 reset.2] at htxen status ⊢
    exact ⟨blank.wfifo, blank.rfifo, blank.frame, htxen, status⟩

theorem store_control_blank {v : Byte} {s : State} (blank : Blank clean s) (txen : hasBit v s.cfg.layout.txen = false) :
    Blank clean (store .control v s) :=
  others_blank ((writeControl_blank blank txen).congr rfl)

theorem setControl_blank {field : Layout → Fin 8} (other : ∀ l, field l ≠ l.txen) {s : State} (blank : Blank clean s) :
    Blank clean (setControl field s) :=
  store_control_blank (loadControl_blank blank) (by simp [blank.txen, other])

theorem clearControl_blank (field : Layout → Fin 8) {s : State} (blank : Blank clean s) :
    Blank clean (clearControl field s) :=
  store_control_blank (loadControl_blank blank) (by simp [blank.txen])

/-- CONFIGURE leaves a blank controller blank. -/
theorem configureFromC1_blank {s : State} (blank : Blank clean s) : Blank clean (configureFromC1 s) := by
  have off : Blank clean (powerOff s) := setControl_blank (fun l => l.pd_ne_txen) (goto_blank .c1 blank)
  have low : Blank clean (storeDivLow (latchDiv (powerOff s))) := others_blank { off with }
  have high : Blank clean (storeDivHigh (storeDivLow (latchDiv (powerOff s)))) := others_blank { low with }
  have on : Blank clean (powerOn (storeDivHigh (storeDivLow (latchDiv (powerOff s))))) :=
    clearControl_blank Layout.pd (goto_blank .c5 high)
  exact { on with }

/-- A write of `CONTROL` with a reset bit blanks the controller. -/
theorem store_control_resets {v : Byte} {s : State}
    (reset : hasBit v s.cfg.layout.rst = true ∨ hasBit v s.cfg.layout.frst = true)
    (status : clean → hasBit v s.cfg.layout.rst = true ∧ s.cfg.rstClearsStatus = true) :
    Blank clean (store .control v s) := by
  refine others_blank (Blank.congr (a := writeControl v s) ?_ rfl)
  obtain ⟨wfifo, rfifo, frame, -⟩ := writeControl_under_reset reset
  obtain ⟨-, -, -, txen⟩ := writeControl_fields v s
  obtain ⟨eof, error⟩ := writeControl_status v s
  refine ⟨wfifo, rfifo, frame, ?_, fun c => ?_⟩
  · rcases reset with h | h <;> simp [txen, h]
  · simp [eof, error, status c]

/-! RECOVER. -/

/-- The FIFO-only recovery: `FRST` set, the controller blank, power, reset and timing as they were. -/
theorem recoverFifo_spec (s : State) :
    (recoverFifo s).ctl.frst = true ∧ Blank False (recoverFifo s) ∧ SamePower s (recoverFifo s) := by
  obtain ⟨-, -, frst⟩ := setControl_fields Layout.frst (goto .v0 s)
  have same := setControl_samePower (fun l => l.frst_ne_pd) (fun l => l.frst_ne_rst) (goto .v0 s)
  exact ⟨frst.trans (by simp), store_control_resets (.inr (by simp)) False.elim, ⟨same.pd, same.rst, same.timing⟩⟩

/-- V1 to V3: powered down and out of both resets, blank, with clear status when the reset clears it. -/
theorem released_spec (inIsr : Bool) (s : State) :
    let t := releaseReset (holdReset inIsr (assertReset s))
    t.ctl.rst = false ∧ t.ctl.frst = false ∧ Blank (s.cfg.rstClearsStatus = true) t := by
  intro t
  have assertCfg : (assertReset s).cfg = s.cfg := (assertReset_path s).cfg
  have asserted : Blank (s.cfg.rstClearsStatus = true) (assertReset s) :=
    store_control_resets (.inl (by simp)) fun c => ⟨by simp, c⟩
  have frst : (assertReset s).ctl.frst = false := by
    have fields := writeControl_fields (bit s.cfg.layout.pd ||| bit s.cfg.layout.rst) (goto .v1 s)
    simp only [assertReset, store, others_frst, regWrite_ctl]
    exact fields.2.2.1.trans (by simp)
  have held : Blank (s.cfg.rstClearsStatus = true) (holdReset inIsr (assertReset s)) := by
    unfold holdReset; split
    · exact delayUs_blank _ (goto_blank _ asserted)
    · exact sleepMs_blank _ (goto_blank _ asserted)
  have heldFrst : (holdReset inIsr (assertReset s)).ctl.frst = (assertReset s).ctl.frst := by
    unfold holdReset; split <;> simp [delayUs, sleepMs]
  obtain ⟨-, hrst, hfrst⟩ := clearControl_fields Layout.rst (goto .v3 (holdReset inIsr (assertReset s)))
  exact ⟨hrst.trans (by simp), hfrst.trans (by simp [heldFrst, frst]), clearControl_blank _ (goto_blank _ held)⟩

/-- V4 and V5 with an admitted bitrate. -/
theorem reconfigure_valid {s : State} (valid : validBitrate s.cfg s.eng.bitrate = true) :
    reconfigure s = .next (leave .v5 (configureFromC1 (latchOperand s.eng.bitrate (enter .v5 (goto .v5 (goto .v4 s)))))) := by
  have nonzero : s.eng.bitrate ≠ 0 := ((validBitrate_iff _ _).mp valid).1
  rw [reconfigure, if_neg nonzero, reapplyBitrate, callOrStop, configure_valid]
  · rfl
  · exact valid

/-- V4 and V5, when they end: the bitrate they began with. -/
theorem reconfigure_next {s t : State} (h : reconfigure s = .next t) :
    t = leave .v5 (configureFromC1 (latchOperand s.eng.bitrate (enter .v5 (goto .v5 (goto .v4 s))))) := by
  unfold reconfigure at h; split at h
  · cases h
  · obtain ⟨u, hu, rfl⟩ := callOrStop_next h
    rw [configure_next hu]; rfl

/-- What a full reset leaves. -/
structure FullReset (s t : State) : Prop where
  pd : t.ctl.pd = false
  rst : t.ctl.rst = false
  frst : t.ctl.frst = false
  blank : Blank (s.cfg.rstClearsStatus = true) t
  btLow : t.ctl.btLow = divLow (divisor s.cfg s.eng.bitrate)
  btHigh : t.ctl.btHigh = divHigh s.cfg (divisor s.cfg s.eng.bitrate)
  bitrate : t.eng.bitrate = s.eng.bitrate
  res : t.eng.res = s.eng.res

/-- The registers of CONFIGURE through V5. -/
theorem reconfigured_spec {s t : State} (h : reconfigure s = .next t) (rst : s.ctl.rst = false)
    (frst : s.ctl.frst = false) (blank : Blank (s.cfg.rstClearsStatus = true) s) : FullReset s t := by
  rw [reconfigure_next h]
  let o := latchOperand s.eng.bitrate (enter .v5 (goto .v5 (goto .v4 s)))
  obtain ⟨pd', rst', frst', timing⟩ := configureFromC1_ctl o
  obtain ⟨bitrate, res⟩ := configureFromC1_eng o
  obtain ⟨low, high⟩ := timing rst
  have blank' : Blank (s.cfg.rstClearsStatus = true) (configureFromC1 o) := configureFromC1_blank { blank with }
  exact ⟨pd', rst'.trans rst, frst'.trans frst, { blank' with }, low, high, bitrate, res⟩

/-- The internal registers of V1 to V3. -/
theorem released_eng (inIsr : Bool) (s : State) :
    (releaseReset (holdReset inIsr (assertReset s))).eng.bitrate = s.eng.bitrate ∧
    (releaseReset (holdReset inIsr (assertReset s))).eng.res = s.eng.res ∧
    (releaseReset (holdReset inIsr (assertReset s))).cfg = s.cfg := by
  cases inIsr <;> simp [releaseReset, holdReset, assertReset]

/-- The full reset, when it ends. -/
theorem recoverFull_spec {inIsr : Bool} {s t : State} (h : recoverFull inIsr s = .next t) : FullReset s t := by
  obtain ⟨bitrate, res, cfg⟩ := released_eng inIsr s
  obtain ⟨rst, frst, blank⟩ := released_spec inIsr s
  have full := reconfigured_spec h rst frst (by rw [cfg]; exact blank)
  obtain ⟨pd', rst', frst', blank', low, high, bitrate', res'⟩ := full
  rw [cfg] at blank' low high
  rw [bitrate] at low high
  exact ⟨pd', rst', frst', blank', low, high, bitrate'.trans bitrate, res'.trans res⟩

/-- The full reset ends when the bitrate is admitted. -/
theorem recoverFull_ends (inIsr : Bool) {s : State} (valid : validBitrate s.cfg s.eng.bitrate = true) :
    ∃ t, recoverFull inIsr s = .next t := by
  obtain ⟨bitrate, -, cfg⟩ := released_eng inIsr s
  exact ⟨_, reconfigure_valid (by rw [cfg, bitrate]; exact valid)⟩

/-- Settles O31: what `recoverFull_spec` says of the full reset, which writes nothing else of the record. -/
theorem fullRecoveryReconfigures : Obligations.FullRecoveryReconfigures := by
  intro s idle admitted
  obtain ⟨t, ht⟩ := recoverFull_ends s.inIsr ((validBitrate_iff _ _).mpr admitted)
  have run : exec .recoverFull s = .next (toIdle t) := by
    refine (runOperation_idle (f := fun u => recoverFull u.inIsr u) idle).trans ?_
    rw [ht]; rfl
  obtain ⟨pd, rst, frst, blank, low, high, bitrate, res⟩ := recoverFull_spec ht
  have path := recoverFull_leads s.inIsr s t ht
  have kept := path.kept
  exact ⟨_, run, pd, rst, frst, blank.txen, blank.wfifo, blank.rfifo, blank.frame, low, high, blank.status,
    kept.tocnt (by decide), bitrate, res, kept.req (by decide), kept.rsp (by decide), rfl, path.cfg,
    kept.irqMask (by decide), kept.results (by decide), kept.intEn1 (by decide), kept.intEn2 (by decide)⟩

end Sys2Proof.Machine
end

section
/-! PROOF. The events of a path: an engine's access is among the kinds of the path, every other event is a delay, a record, or another agent's (20_memory.md R40). -/

namespace Sys2Proof.Machine

variable {K : List Kind}

/-- From `a` to `b` events were added, each with the property. -/
def Grows (Q : Event → Prop) (a b : State) : Prop := ∃ h, b.history = h ++ a.history ∧ ∀ x ∈ h, Q x

variable {Q : Event → Prop}

theorem Grows.of_same {a b : State} (h : b.history = a.history) : Grows Q a b := ⟨[], h, nofun⟩

theorem Grows.one {a b : State} {x : Event} (h : b.history = x :: a.history) (q : Q x) : Grows Q a b :=
  ⟨[x], h, fun y hy => by rw [List.mem_singleton.mp hy]; exact q⟩

theorem Grows.trans {a b c : State} (h : Grows Q a b) (k : Grows Q b c) : Grows Q a c := by
  obtain ⟨x, hx, qx⟩ := h
  obtain ⟨y, hy, qy⟩ := k
  exact ⟨y ++ x, by rw [hy, hx, List.append_assoc], fun z hz => (List.mem_append.mp hz).elim (qy z) (qx z)⟩

theorem Grows.mono {R : Event → Prop} {a b : State} (h : Grows Q a b) (sub : ∀ x, Q x → R x) : Grows R a b := by
  obtain ⟨x, hx, qx⟩ := h
  exact ⟨x, hx, fun y hy => sub y (qx y hy)⟩

/-- The events a path of the kinds can record. -/
def Emits (K : List Kind) : Event → Prop
  | .rd .eng r _ => .read r ∈ K
  | .wr .eng r _ => .write r ∈ K
  | .delayUs _ => .delay ∈ K
  | .sleepMs _ => .delay ∈ K
  | .log _ => .log ∈ K
  | .rd .host _ _ => False
  | .wr .host _ _ => False
  | .rd .isr _ _ => True
  | .wr .isr r _ => r = .status1
  | .wireTx _ => True
  | .wireRx _ => True

theorem handlerStep_grows (s : State) : Grows (Emits K) s (handlerStep s) := by
  unfold handlerStep; split
  · rw [handlerH0_eq]; exact .one rfl trivial
  · rw [handlerH1_eq]; exact .one rfl trivial
  · rw [handlerH2_eq]; exact .one rfl trivial
  · rw [handlerH3_eq]; exact .one rfl rfl
  · rw [handlerH4_eq]; exact .of_same rfl
  · rw [handlerH5_eq]; exact .of_same rfl

theorem agentStep_grows (m : Turn) (s : State) : Grows (Emits K) s (agentStep m s) := by
  cases m with
  | eng | expire => exact .of_same rfl
  | ctlTx =>
    simp only [agentStep, ctlTx]; split
    · split
      · exact .one rfl trivial
      · exact .of_same rfl
    · exact .of_same rfl
  | ctlRx b =>
    simp only [agentStep, ctlRx]; split
    · split <;> exact .one rfl trivial
    · exact .of_same rfl
  | isr =>
    simp only [agentStep, isrStep]; split
    · exact handlerStep_grows s
    · exact .of_same rfl
  | ctlStart => simp only [agentStep, ctlStart]; split <;> exact .of_same rfl
  | ctlUnderrun => simp only [agentStep, ctlUnderrun]; split <;> exact .of_same rfl
  | ctlEof => simp only [agentStep, ctlEof]; split <;> exact .of_same rfl
  | ctlEnd => simp only [agentStep, ctlEnd]; split <;> exact .of_same rfl
  | ctlErr e => simp only [agentStep, ctlErr]; split <;> exact .of_same rfl
  | envBus v => simp only [agentStep, envBus]; split <;> exact .of_same rfl
  | envErr e => simp only [agentStep, envErr]; split <;> exact .of_same rfl
  | host bytes => simp only [agentStep, offer]; split <;> exact .of_same rfl
  | platform w => simp only [agentStep, offer]; split <;> exact .of_same rfl

theorem does_grows {k : Kind} (mem : k ∈ K) {s t : State} (h : Does k s t) : Grows (Emits K) s t := by
  cases k with
  | read r => cases h; exact .one (regRead_history _ _ _) mem
  | write r => obtain ⟨v, rfl⟩ := h; exact .one (regWrite_history _ _ _ _) mem
  | delay => obtain ⟨n, rfl | rfl⟩ := h <;> exact .one rfl mem
  | log => obtain ⟨x, rfl⟩ := h; exact .one rfl mem
  | mask => obtain ⟨v, rfl⟩ := h; unfold setIrqMask; split <;> exact .of_same rfl
  | bitrate => obtain ⟨br, -, rfl⟩ := h; exact .of_same rfl
  | take | forget => cases h; exact .of_same rfl
  | respond | count | request | put => obtain ⟨x, rfl⟩ := h; exact .of_same rfl

/-- A path records only the events of its kinds and of the other agents. -/
theorem Path.grows {s t : State} (h : Path K s t) : Grows (Emits K) s t :=
  h.lift (R := Grows (Emits K)) (fun _ => .of_same rfl) (fun _ _ _ => Grows.trans)
    (fun _ _ same => .of_same (congrArg State.history same :)) agentStep_grows (fun _ _ => .of_same rfl)
    (fun _ mem _ _ => does_grows mem) (fun _ _ => .of_same rfl) (fun _ _ => .of_same rfl)

/-- A path without a register write records no write by the engine. -/
theorem Emits.noWrite (none : ∀ r, .write r ∉ K) {x : Event} (h : Emits K x) : isEngineWrite x = false := by
  cases x with
  | wr who r v =>
    cases who with
    | eng => exact absurd h (none r)
    | _ => rfl
  | _ => rfl

/-- A path without register accesses records none by the engine. -/
theorem Emits.noAccess (reads : ∀ r, .read r ∉ K) (writes : ∀ r, .write r ∉ K) {x : Event} (h : Emits K x) :
    isEngineAccess x = false := by
  cases x with
  | wr who r v =>
    cases who with
    | eng => exact absurd h (writes r)
    | _ => rfl
  | rd who r v =>
    cases who with
    | eng => exact absurd h (reads r)
    | _ => rfl
  | _ => rfl

/-- How often a kind of event stands in the history. -/
def occurs (p : Event → Bool) (s : State) : Nat := s.history.countP p

/-- Events that are none of a kind do not change its count. -/
theorem Grows.occurs {p : Event → Bool} {a b : State} (h : Grows (fun x => p x = false) a b) :
    occurs p b = occurs p a := by
  obtain ⟨x, hx, none⟩ := h
  rw [Machine.occurs, hx, List.countP_append, List.countP_eq_zero.mpr (fun y hy => by simp [none y hy]), Nat.zero_add]
  rfl

end Sys2Proof.Machine
end

section
/-! PROOF. The engine on its own: while no other agent has a turn, what each engine step does to the whole state. `Alone n s` says that the next `n` turns are the engine's, `Did n s t k h` that `n` steps led from `s` to `t`, with the controller `k` at the end and the events `h` on the way, internal registers aside. -/

namespace Sys2Proof.Machine

/-- The next `n` times that the other agents could move, none does: nobody is left to move, or the next `n` turns are the engine's. -/
def Alone (n : Nat) (s : State) : Prop := s.turns = [] ∨ ∃ l, s.turns = List.replicate n .eng ++ l

theorem alone_of_quiet (n : Nat) {s : State} (quiet : Quiet s) : Alone n s := .inl quiet

theorem Alone.of_le {m n : Nat} {s : State} (h : Alone n s) (le : m ≤ n) : Alone m s := by
  obtain quiet | ⟨l, order⟩ := h
  · exact .inl quiet
  · obtain ⟨k, rfl⟩ := Nat.exists_eq_add_of_le le
    exact .inr ⟨List.replicate k .eng ++ l, by rw [order, List.replicate_add, List.append_assoc]⟩

/-- At the engine's own turn, or with no turn left, the other agents do nothing. -/
theorem others_alone {s : State} (h : Alone 1 s) : others s = { s with turns := s.turns.drop 1 } := by
  obtain quiet | ⟨l, order⟩ := h
  · rw [others_quiet quiet, quiet]
    exact congrArg (fun q => { s with turns := q }) quiet
  · rw [others_eng (l := l) order, order]; rfl

/-- `n` engine steps led from `s` to `t`: the controller is `k`, the events `h` were added, `n` turns are used; internal registers and the last value read aside, nothing else changed. -/
def Did (n : Nat) (s t : State) (k : Controller) (h : List Event) : Prop :=
  shared t = shared { s with ctl := k, history := h ++ s.history, turns := s.turns.drop n, rdata := t.rdata }

namespace Did

variable {m n : Nat} {s t u : State} {k k' : Controller} {h h' : List Event}

theorem ctl (d : Did n s t k h) : t.ctl = k := (congrArg State.ctl d :)
theorem history (d : Did n s t k h) : t.history = h ++ s.history := (congrArg State.history d :)
theorem turns (d : Did n s t k h) : t.turns = s.turns.drop n := (congrArg State.turns d :)
theorem cfg (d : Did n s t k h) : t.cfg = s.cfg := (congrArg State.cfg d :)
theorem busIdle (d : Did n s t k h) : t.busIdle = s.busIdle := (congrArg State.busIdle d :)
theorem sig (d : Did n s t k h) : t.sig = s.sig := (congrArg State.sig d :)
theorem irqMask (d : Did n s t k h) : t.irqMask = s.irqMask := (congrArg State.irqMask d :)
theorem isr (d : Did n s t k h) : t.isr = s.isr := (congrArg State.isr d :)
theorem inIsr (d : Did n s t k h) : t.inIsr = s.inIsr := (congrArg State.inIsr d :)
theorem port (d : Did n s t k h) : t.port = s.port := (congrArg State.port d :)
theorem results (d : Did n s t k h) : t.results = s.results := (congrArg State.results d :)
theorem draws (d : Did n s t k h) : t.draws = s.draws := (congrArg State.draws d :)
theorem bitrate (d : Did n s t k h) : t.eng.bitrate = s.eng.bitrate := (congrArg (fun a => a.eng.bitrate) d :)
theorem tocnt (d : Did n s t k h) : t.eng.tocnt = s.eng.tocnt := (congrArg (fun a => a.eng.tocnt) d :)
theorem req (d : Did n s t k h) : t.eng.req = s.eng.req := (congrArg (fun a => a.eng.req) d :)
theorem rsp (d : Did n s t k h) : t.eng.rsp = s.eng.rsp := (congrArg (fun a => a.eng.rsp) d :)

/-- With nobody else to move, nobody moves later. -/
theorem quiet (d : Did n s t k h) (q : Quiet s) : Quiet t := by rw [Quiet, d.turns, q, List.drop_nil]

theorem refl (s : State) : Did 0 s s s.ctl [] := rfl

/-- Internal work of the engine. -/
theorem work (same : shared t = shared s) : Did 0 s t s.ctl [] :=
  same.trans (congrArg (fun d => shared { s with rdata := d }) (congrArg State.rdata same :).symm)

/-- One phase after another. -/
theorem trans (d : Did n s t k h) (e : Did m t u k' h') : Did (n + m) s u k' (h' ++ h) := by
  have later : shared { t with ctl := k', history := h' ++ t.history, turns := t.turns.drop m, rdata := u.rdata } =
      { shared t with ctl := k', history := h' ++ t.history, turns := t.turns.drop m, rdata := u.rdata } := rfl
  unfold Did at e ⊢
  rw [e, later, d, d.history, d.turns, List.drop_drop, List.append_assoc]
  rfl

/-- Internal work before and after changes nothing of the account. -/
theorem after_work (same : shared t = shared s) (d : Did n t u k h) : Did n s u k h := by
  have both := (work same).trans d
  rwa [List.append_nil, Nat.zero_add] at both

theorem then_work (d : Did n s t k h) (same : shared u = shared t) : Did n s u k h := by
  have both := d.trans (work same)
  rw [d.ctl, List.nil_append] at both
  exact both

/-- A call and its return. -/
theorem call {c : CallSite} {f : State → State} (d : Did n (enter c s) (f (enter c s)) k h) :
    Did n s (Machine.call c f s) k h := by
  have back : shared (leave c (f (enter c s))) =
      { shared (f (enter c s)) with eng :=
        { (shared (f (enter c s))).eng with calls := (shared (f (enter c s))).eng.calls.tail } } := rfl
  unfold Did at d ⊢
  rw [Machine.call, back, d]; rfl

/-- The other turns that are left. -/
theorem alone (d : Did n s t k h) (a : Alone (n + m) s) : Alone m t := by
  obtain quiet | ⟨l, order⟩ := a
  · exact .inl (d.quiet quiet)
  · refine .inr ⟨l, ?_⟩
    rw [d.turns, order, List.replicate_add, List.append_assoc]
    exact List.drop_left' (List.length_replicate ..)

end Did

/-! The engine's own steps. -/

/-- A status read without a side effect. -/
theorem loadStatus_did {r : Reg} {s : State} {v : Byte} (pure : readReg r s = (v, s)) (a : Alone 1 s) :
    Did 1 s (loadStatus r s) s.ctl [.rd .eng r v] := by
  unfold Did loadStatus
  rw [regRead_pure pure, others_alone (by exact a)]; rfl

theorem loadControl_did {s : State} (a : Alone 1 s) :
    Did 1 s (loadControl s) s.ctl [.rd .eng .control (controlByte s.cfg.layout s.ctl)] := by
  unfold Did loadControl
  rw [regRead_pure (v := controlByte s.cfg.layout s.ctl) rfl, others_alone (by exact a)]; rfl

theorem loadError_did {s : State} (a : Alone 1 s) :
    Did 1 s (loadError s) s.ctl [.rd .eng .error s.ctl.error] := by
  unfold Did loadError
  rw [regRead_pure (readReg_error s), others_alone (by exact a)]; rfl

theorem store_did {r : Reg} {v : Byte} {s : State} (draws : (writeReg r v s).draws = s.draws) (a : Alone 1 s) :
    Did 1 s (store r v s) (writeReg r v s).ctl [.wr .eng r v] := by
  unfold Did store
  have a' : Alone 1 (regWrite .eng r v s) := by unfold Alone; rwa [regWrite_turns]
  rw [others_alone a', regWrite_outside]
  simp only [regWrite_ctl, show (regWrite .eng r v s).draws = s.draws from draws]; rfl

theorem delayUs_did (n : Nat) {s : State} (a : Alone 1 s) : Did 1 s (delayUs n s) s.ctl [.delayUs n] := by
  unfold Did delayUs
  rw [others_alone (by exact a)]; rfl

theorem sleepMs_did (n : Nat) {s : State} (a : Alone 1 s) : Did 1 s (sleepMs n s) s.ctl [.sleepMs n] := by
  unfold Did sleepMs
  rw [others_alone (by exact a)]; rfl

theorem logRecord_did (x : LogRecord) (s : State) : Did 0 s (logRecord x s) s.ctl [.log x] := rfl

end Sys2Proof.Machine
end

section
/-! PROOF. The read-modify-writes of `CONTROL` by the engine alone, and with them the access sequences of CONFIGURE, ENABLE and RECOVER (41_config.md V40, 47_public_ops.md R191, 46_finish_recover.md V97). -/

namespace Sys2Proof.Machine

/-! `CONTROL` as it reads after one field has changed. -/

theorem controlByte_or_pd (l : Layout) (k : Controller) :
    controlByte l k ||| bit l.pd = controlByte l { k with pd := true } := by
  refine byte_ext fun p => ?_
  by_cases h : l.pd = p <;> simp [controlByte, h]

theorem controlByte_or_frst (l : Layout) (k : Controller) :
    controlByte l k ||| bit l.frst = controlByte l { k with frst := true } := by
  refine byte_ext fun p => ?_
  by_cases h : l.frst = p <;> simp [controlByte, h]

theorem controlByte_or_txen (l : Layout) (k : Controller) :
    controlByte l k ||| bit l.txen = controlByte l { k with txen := true } := by
  refine byte_ext fun p => ?_
  by_cases h : l.txen = p <;> simp [controlByte, h]

theorem controlByte_andNot_pd (l : Layout) (k : Controller) :
    controlByte l k &&& ~~~bit l.pd = controlByte l { k with pd := false } := by
  refine byte_ext fun p => ?_
  by_cases h : l.pd = p
  · subst h; simp
  · simp [controlByte, h]

theorem controlByte_andNot_frst (l : Layout) (k : Controller) :
    controlByte l k &&& ~~~bit l.frst = controlByte l { k with frst := false } := by
  refine byte_ext fun p => ?_
  by_cases h : l.frst = p
  · subst h; simp
  · simp [controlByte, h]

theorem controlByte_andNot_rst (l : Layout) (k : Controller) :
    controlByte l k &&& ~~~bit l.rst = controlByte l { k with rst := false } := by
  refine byte_ext fun p => ?_
  by_cases h : l.rst = p
  · subst h; simp
  · simp [controlByte, h]

/-! A write of `CONTROL` without `RST`. -/

/-- The controller while `FRST` may be 1: its FIFOs and its frame are then dropped (R81). -/
def held (k : Controller) : Controller := if k.frst then dropFifosAndFrame k else k

theorem held_of_frst {k : Controller} (h : k.frst = false) : held k = k := by simp [held, h]

theorem dropFifosAndFrame_eq_self {k : Controller} (wfifo : k.wfifo = []) (rfifo : k.rfifo = [])
    (frame : k.frame = { active := false, eofDone := false }) (txen : k.txen = false) (valid : k.invalidated = false) :
    dropFifosAndFrame k = k := by
  cases k; simp_all [dropFifosAndFrame]

/-- Under the invariant nothing is left to drop. -/
theorem held_of_consistent {s : State} (c : Consistent s) : held s.ctl = s.ctl := by
  unfold held; split
  case isFalse => rfl
  case isTrue frst =>
    obtain ⟨wfifo, rfifo, frame, txen⟩ := c.heldEmpty (.inr frst)
    have valid : s.ctl.invalidated = false := by
      by_contra inv
      have active := c.invalidatedFrame (by simpa using inv)
      rw [frame] at active; cases active
    exact dropFifosAndFrame_eq_self wfifo rfifo frame txen valid

/-- Nothing is left to drop whatever `PD` becomes. -/
theorem held_pd {k : Controller} (h : held k = k) (v : Bool) : held { k with pd := v } = { k with pd := v } := by
  unfold held at h ⊢; split
  case isFalse => rfl
  case isTrue frst =>
    rw [if_pos frst] at h
    exact (congrArg (fun m : Controller => { m with pd := v }) h :)

/-- Nothing is left to drop after a write of the bit timing. -/
theorem held_timed {k : Controller} (h : held k = k) (low high : Byte) :
    held { k with btLow := low, btHigh := high, invalidated := k.invalidated || k.frame.active } =
      { k with btLow := low, btHigh := high, invalidated := k.invalidated || k.frame.active } := by
  unfold held at h ⊢; split
  case isFalse => rfl
  case isTrue frst =>
    rw [if_pos frst] at h
    have valid : (k.invalidated || k.frame.active) = false := by
      rw [← h]; rfl
    rw [valid]
    exact (congrArg (fun m : Controller => { m with btLow := low, btHigh := high, invalidated := false }) h :)

/-- `CONTROL` written with the fields of a controller out of reset. -/
theorem writeControl_of_fields {s : State} {k : Controller} (rst : k.rst = false)
    (same : k = { s.ctl with pd := k.pd, rst := k.rst, frst := k.frst, txen := k.txen }) :
    writeControl (controlByte s.cfg.layout k) s = { s with ctl := held k } := by
  have noRst : hasBit (controlByte s.cfg.layout k) s.cfg.layout.rst = false := by simp [rst]
  have assigned : assignControl s.cfg.layout (controlByte s.cfg.layout k) s.ctl = k := by
    simp only [assignControl, hasBit_controlByte_pd, hasBit_controlByte_rst, hasBit_controlByte_frst,
      hasBit_controlByte_txen]
    exact same.symm
  cases frst : k.frst with
  | true => rw [writeControl_frst noRst (by simp [frst]), assigned, held, frst]; rfl
  | false => rw [writeControl_plain _ s noRst (by simp [frst]), assigned, held_of_frst frst]

/-- `CONTROL` written by the engine alone with the fields of a controller out of reset. -/
theorem storeControl_did {s : State} {k : Controller} (a : Alone 1 s) (rst : k.rst = false)
    (same : k = { s.ctl with pd := k.pd, rst := k.rst, frst := k.frst, txen := k.txen }) :
    Did 1 s (store .control (controlByte s.cfg.layout k) s) (held k) [.wr .eng .control (controlByte s.cfg.layout k)] := by
  have written : writeReg .control (controlByte s.cfg.layout k) s = { s with ctl := held k } := writeControl_of_fields rst same
  have done := store_did (r := .control) (v := controlByte s.cfg.layout k) (by rw [written]) a
  rwa [written] at done

/-- A read-modify-write of `CONTROL` that sets a field. -/
theorem setControl_did {field : Layout → Fin 8} {s : State} {k : Controller} (a : Alone 2 s)
    (byte : controlByte s.cfg.layout s.ctl ||| bit (field s.cfg.layout) = controlByte s.cfg.layout k) (rst : k.rst = false)
    (same : k = { s.ctl with pd := k.pd, rst := k.rst, frst := k.frst, txen := k.txen }) :
    Did 2 s (setControl field s) (held k)
      [.wr .eng .control (controlByte s.cfg.layout k), .rd .eng .control (controlByte s.cfg.layout s.ctl)] := by
  have read := loadControl_did (a.of_le (by decide))
  have written := storeControl_did (s := loadControl s) (k := k) (read.alone a) rst (by rw [read.ctl]; exact same)
  have value : storeControlOr field (loadControl s) = store .control (controlByte s.cfg.layout k) (loadControl s) := by
    simp only [storeControlOr, loadControl_eng, loadControl_cfg, byte]
  rw [loadControl_cfg] at written
  rw [setControl, value]
  exact read.trans written

/-- A read-modify-write of `CONTROL` that clears a field. -/
theorem clearControl_did {field : Layout → Fin 8} {s : State} {k : Controller} (a : Alone 2 s)
    (byte : controlByte s.cfg.layout s.ctl &&& ~~~bit (field s.cfg.layout) = controlByte s.cfg.layout k) (rst : k.rst = false)
    (same : k = { s.ctl with pd := k.pd, rst := k.rst, frst := k.frst, txen := k.txen }) :
    Did 2 s (clearControl field s) (held k)
      [.wr .eng .control (controlByte s.cfg.layout k), .rd .eng .control (controlByte s.cfg.layout s.ctl)] := by
  have read := loadControl_did (a.of_le (by decide))
  have written := storeControl_did (s := loadControl s) (k := k) (read.alone a) rst (by rw [read.ctl]; exact same)
  have value : storeControlAndNot field (loadControl s) = store .control (controlByte s.cfg.layout k) (loadControl s) := by
    simp only [storeControlAndNot, loadControl_eng, loadControl_cfg, byte]
  rw [loadControl_cfg] at written
  rw [clearControl, value]
  exact read.trans written

/-! CONFIGURE and ENABLE. -/

variable {s : State}

theorem setPd_did (still : held s.ctl = s.ctl) (rst : s.ctl.rst = false) (a : Alone 2 s) :
    Did 2 s (setControl Layout.pd s) { s.ctl with pd := true }
      [.wr .eng .control (controlByte s.cfg.layout { s.ctl with pd := true }),
        .rd .eng .control (controlByte s.cfg.layout s.ctl)] := by
  have done := setControl_did (k := { s.ctl with pd := true }) a (controlByte_or_pd _ _) rst rfl
  rwa [held_pd still] at done

theorem clearPd_did (still : held s.ctl = s.ctl) (rst : s.ctl.rst = false) (a : Alone 2 s) :
    Did 2 s (clearControl Layout.pd s) { s.ctl with pd := false }
      [.wr .eng .control (controlByte s.cfg.layout { s.ctl with pd := false }),
        .rd .eng .control (controlByte s.cfg.layout s.ctl)] := by
  have done := clearControl_did (k := { s.ctl with pd := false }) a (controlByte_andNot_pd _ _) rst rfl
  rwa [held_pd still] at done

/-- The controller after CONFIGURE: powered up, the divisor in its two registers, a frame in progress invalidated. -/
def configured (p : Params) (br : Word) (k : Controller) : Controller :=
  { k with
    pd := false, btLow := divLow (divisor p br), btHigh := divHigh p (divisor p br)
    invalidated := k.invalidated || k.frame.active }

/-- The accesses of CONFIGURE, newest first. -/
def configureEvents (p : Params) (br : Word) (k : Controller) : List Event :=
  [.wr .eng .control (controlByte p.layout { k with pd := false }),
    .rd .eng .control (controlByte p.layout { k with pd := true }),
    .wr .eng .btHigh (divHigh p (divisor p br)), .wr .eng .btLow (divLow (divisor p br)),
    .wr .eng .control (controlByte p.layout { k with pd := true }), .rd .eng .control (controlByte p.layout k)]

theorem storeDivLow_did (a : Alone 1 s) :
    Did 1 s (storeDivLow s) { s.ctl with btLow := divLow s.eng.div, invalidated := s.ctl.invalidated || s.ctl.frame.active }
      [.wr .eng .btLow (divLow s.eng.div)] :=
  (store_did (r := .btLow) (s := goto .c3 s) rfl a).after_work rfl

theorem storeDivHigh_did (a : Alone 1 s) :
    Did 1 s (storeDivHigh s)
      { s.ctl with btHigh := divHigh s.cfg s.eng.div, invalidated := s.ctl.invalidated || s.ctl.frame.active }
      [.wr .eng .btHigh (divHigh s.cfg s.eng.div)] :=
  (store_did (r := .btHigh) (s := goto .c4 s) rfl a).after_work rfl

/-- C1 to C5 by the engine alone; what is left is the bitrate. -/
theorem configureToC5_did (still : held s.ctl = s.ctl) (rst : s.ctl.rst = false) (a : Alone 6 s) :
    Did 6 s (powerOn (storeDivHigh (storeDivLow (latchDiv (powerOff s))))) (configured s.cfg s.eng.newBitrate s.ctl)
      (configureEvents s.cfg s.eng.newBitrate s.ctl) := by
  let u := latchDiv (powerOff s)
  let invalid := s.ctl.invalidated || s.ctl.frame.active
  let div := divisor s.cfg s.eng.newBitrate
  have off : Did 2 s u { s.ctl with pd := true } _ :=
    ((setPd_did (s := goto .c1 s) still rst (a.of_le (by decide))).after_work rfl).then_work rfl
  have offDiv : u.eng.div = div := by simp [u, div, latchDiv, powerOff]
  have low : Did 1 u (storeDivLow u) { s.ctl with pd := true, btLow := divLow div, invalidated := invalid }
      [.wr .eng .btLow (divLow div)] := by
    have step := storeDivLow_did (off.alone (a.of_le (n := 6) (m := 2 + 1) (by decide)))
    rw [off.ctl, offDiv] at step; exact step
  have offLow := off.trans low
  have lowDiv : (storeDivLow u).eng.div = div := by rw [storeDivLow, store_eng, goto_eng]; exact offDiv
  have high : Did 1 (storeDivLow u) (storeDivHigh (storeDivLow u))
      { s.ctl with pd := true, btLow := divLow div, btHigh := divHigh s.cfg div, invalidated := invalid }
      [.wr .eng .btHigh (divHigh s.cfg div)] := by
    have step := storeDivHigh_did (offLow.alone (a.of_le (n := 6) (m := 3 + 1) (by decide)))
    rw [offLow.ctl, offLow.cfg, lowDiv] at step
    have again : (invalid || s.ctl.frame.active) = invalid := by simp only [invalid, Bool.or_assoc, Bool.or_self]
    exact again ▸ step
  have offHigh := offLow.trans high
  have still' : held (storeDivHigh (storeDivLow u)).ctl = (storeDivHigh (storeDivLow u)).ctl := by
    rw [offHigh.ctl]; exact held_timed (held_pd still true) (divLow div) (divHigh s.cfg div)
  have on : Did 2 (storeDivHigh (storeDivLow u)) (powerOn (storeDivHigh (storeDivLow u)))
      (configured s.cfg s.eng.newBitrate s.ctl)
      [.wr .eng .control (controlByte s.cfg.layout { s.ctl with pd := false }),
        .rd .eng .control (controlByte s.cfg.layout { s.ctl with pd := true })] := by
    have step := (clearPd_did (s := goto .c5 (storeDivHigh (storeDivLow u))) still'
      ((congrArg Controller.rst offHigh.ctl).trans rst)
      (offHigh.alone (a.of_le (n := 6) (m := 4 + 2) (by decide)))).after_work rfl
    rw [goto_ctl, goto_cfg, offHigh.ctl, offHigh.cfg] at step; exact step
  exact offHigh.trans on

/-- Settles O14: `configureToC5_did`, after which CONFIGURE stores the bitrate and ends. -/
theorem configureAccessSequence : Obligations.ConfigureAccessSequence := by
  intro br s idle admitted quiet c rst
  have valid := (validBitrate_iff s.cfg br).mpr admitted
  have run : exec (.configure br) s = .next (endOperation .configure (configureFromC1 (latchOperand br s))) := by
    refine (runOperation_idle (f := configure br) idle).trans ?_
    rw [configure_valid valid]; rfl
  have done := configureToC5_did (s := latchOperand br s) (held_of_consistent (s := s) c) rst (alone_of_quiet 6 quiet)
  refine ⟨_, run, ?_⟩
  rw [endOperation, endPublic_eq]
  exact ⟨done.history, done.ctl, done.busIdle, done.sig, done.isr, done.port, done.draws⟩

/-- ENABLE up to its end, by the engine alone. -/
theorem enable_did (still : held s.ctl = s.ctl) (rst : s.ctl.rst = false) (a : Alone 2 s) :
    Did 2 s (clearControl Layout.pd (goto .n0 s)) { s.ctl with pd := false }
      [.wr .eng .control (controlByte s.cfg.layout { s.ctl with pd := false }),
        .rd .eng .control (controlByte s.cfg.layout s.ctl)] :=
  (clearPd_did (s := goto .n0 s) still rst a).after_work rfl

/-- The mask in EVENT mode takes the value; in POLLED mode nothing changes. -/
theorem setIrqMask_eq (v : Bool) (s : State) :
    setIrqMask v s = { s with irqMask := if s.cfg.mode = .event then v else s.irqMask } := by
  unfold setIrqMask
  split
  next event => rw [if_pos event]
  next polled => rw [if_neg (by rw [polled]; decide)]

/-- The end of ENABLE: the mask, `Ok`, its code. -/
theorem enableEnds_eq (u : State) : endOperation .enable (unmaskLine u) = { u with
    eng := { u.eng with res := .ok, phase := .idle }
    irqMask := if u.cfg.mode = .event then false else u.irqMask, results := u.results ++ [u.cfg.errCode.ok] } := by
  rw [unmaskLine, setIrqMask_eq, endOperation, endPublic_eq]; rfl

/-- Settles O15: `PD` by read-modify-write, then the mask. -/
theorem enablePowersUpAndUnmasks : Obligations.EnablePowersUpAndUnmasks := by
  intro s idle
  have run : exec .enable s = .next (endOperation .enable (enable s)) := runOperation_total (body := enable) idle
  let u := clearControl Layout.pd (goto .n0 s)
  have path : Path controlKinds s u := (Path.edit s (goto .n0 s) rfl).trans (clearControl_path _ _)
  have kept := path.kept
  obtain ⟨pd, rst, frst⟩ := clearControl_fields Layout.pd (goto .n0 s)
  refine ⟨_, run, ?_⟩
  rw [enable, enableEnds_eq, path.cfg, kept.results (by decide), kept.irqMask (by decide)]
  refine ⟨pd.trans (by simp), rst.trans (by simp), frst.trans (by simp), fun event => if_pos event,
    fun polled => if_neg (by rw [polled]; decide), rfl, rfl, rfl, fun out => clearControl_timing (.inl out),
    kept.bitrate (by decide), kept.tocnt (by decide), kept.req (by decide), kept.rsp (by decide), rfl,
    kept.intEn1 (by decide), kept.intEn2 (by decide), fun quiet c out => ?_⟩
  have done := enable_did (held_of_consistent c) out (alone_of_quiet 2 quiet)
  exact ⟨done.ctl, done.history, done.sig, done.busIdle, done.isr, done.draws⟩

/-! RECOVER. -/

/-- The FIFO-only recovery by the engine alone. -/
theorem recoverFifo_did (rst : s.ctl.rst = false) (a : Alone 2 s) :
    Did 2 s (recoverFifo s) (dropFifosAndFrame { s.ctl with frst := true })
      [.wr .eng .control (controlByte s.cfg.layout { s.ctl with frst := true }),
        .rd .eng .control (controlByte s.cfg.layout s.ctl)] :=
  (setControl_did (s := goto .v0 s) (k := { s.ctl with frst := true }) a (controlByte_or_frst _ _) rst rfl).after_work rfl

/-- Settles O30: `recoverFifo_spec` under any schedule, `recoverFifo_did` quiet. -/
theorem fifoRecoverySetsTheFlag : Obligations.FifoRecoverySetsTheFlag := by
  intro s idle
  have run : exec .recoverFifo s = .next (endOperation .recover (recoverFifo s)) :=
    runOperation_total (body := recoverFifo) idle
  obtain ⟨frst, blank, same⟩ := recoverFifo_spec s
  have path := recoverFifo_path s
  have kept := path.kept
  have res : (recoverFifo s).eng.res = s.eng.res := by simp [recoverFifo]
  refine ⟨_, run, frst, blank.wfifo, blank.rfifo, blank.txen, blank.frame, same.pd, same.rst, same.timing,
    kept.tocnt (by decide), kept.bitrate (by decide), res, kept.req (by decide), kept.rsp (by decide), rfl, path.cfg,
    kept.irqMask (by decide), kept.results (by decide), kept.intEn1 (by decide), kept.intEn2 (by decide),
    fun quiet out => ?_⟩
  have done := recoverFifo_did out (alone_of_quiet 2 quiet)
  exact ⟨(congrArg Controller.eof done.ctl :), (congrArg Controller.error done.ctl :), done.sig, done.history⟩

/-- A store with nobody else to move. -/
theorem store_quiet (r : Reg) (v : Byte) (quiet : Quiet s) : store r v s = regWrite .eng r v s :=
  others_quiet ((regWrite_turns _ _ _ _).trans quiet)

/-- The hold of the full reset: one delay of the calling context. -/
theorem holdReset_did (inIsr : Bool) (a : Alone 1 s) :
    Did 1 s (holdReset inIsr s) s.ctl [if inIsr then .delayUs s.cfg.resetBusyUs else .sleepMs s.cfg.resetSleepMs] := by
  cases inIsr with
  | true => exact (delayUs_did _ (s := goto .v2 s) a).after_work rfl
  | false => exact (sleepMs_did _ (s := goto .v2 s) a).after_work rfl

theorem releaseReset_did (frst : s.ctl.frst = false) (a : Alone 2 s) :
    Did 2 s (releaseReset s) { s.ctl with rst := false }
      [.wr .eng .control (controlByte s.cfg.layout { s.ctl with rst := false }),
        .rd .eng .control (controlByte s.cfg.layout s.ctl)] := by
  have done := (clearControl_did (s := goto .v3 s) (k := { s.ctl with rst := false }) a (controlByte_andNot_rst _ _)
    rfl rfl).after_work rfl
  rwa [held_of_frst (k := { s.ctl with rst := false }) frst] at done

/-- V1: the assignment of `PD` and `RST`, by the engine alone. -/
theorem assertReset_quiet (quiet : Quiet s) :
    let t := assertReset s
    Quiet t ∧ t.history = .wr .eng .control (bit s.cfg.layout.pd ||| bit s.cfg.layout.rst) :: s.history ∧
    t.sig = s.sig ∧ t.busIdle = s.busIdle ∧ t.ctl.frst = false ∧
    t.ctl.pd = true ∧ t.ctl.rst = true ∧ t.ctl.txen = false := by
  intro t
  have eq : t = regWrite .eng .control (bit s.cfg.layout.pd ||| bit s.cfg.layout.rst) (goto .v1 s) :=
    store_quiet (s := goto .v1 s) .control _ quiet
  have fields := writeControl_fields (bit s.cfg.layout.pd ||| bit s.cfg.layout.rst) (goto .v1 s)
  simp only [goto_cfg, hasBit_or, hasBit_bit, Layout.pd_ne_rst, Layout.pd_ne_frst, Layout.rst_ne_frst,
    Layout.pd_ne_txen, Layout.rst_ne_txen, decide_true, decide_false, Bool.or_false, Bool.false_or, Bool.true_or,
    Bool.false_and] at fields
  obtain ⟨pd, rst, frst, txen⟩ := fields
  have ctl : t.ctl = (writeControl (bit s.cfg.layout.pd ||| bit s.cfg.layout.rst) (goto .v1 s)).ctl :=
    (congrArg State.ctl eq).trans (regWrite_ctl _ _ _ _)
  refine ⟨?_, ?_, ?_, ?_, ctl ▸ frst, ctl ▸ pd, ctl ▸ rst, ctl ▸ txen⟩
  · rw [Quiet, eq, regWrite_turns]; exact quiet
  · rw [eq, regWrite_history]; rfl
  · rw [eq, regWrite_sig]; rfl
  · rw [eq, regWrite_busIdle]; rfl

/-- `CONTROL` when nothing but `PD` and `RST` can be 1. -/
theorem controlByte_of_fields (l : Layout) {k : Controller} {p v : Bool} (pd : k.pd = p) (rst : k.rst = v)
    (frst : k.frst = false) (txen : k.txen = false) : controlByte l k = flag p l.pd ||| flag v l.rst := by
  have none (p : Fin 8) : flag false p = 0 := rfl
  rw [controlByte, pd, rst, frst, txen, none, none, BitVec.or_comm]
  exact congrArg _ (BitVec.zero_or)

/-- V4 and V5 by the engine alone. -/
theorem reconfigure_quiet (valid : validBitrate s.cfg s.eng.bitrate = true) (rst : s.ctl.rst = false)
    (frst : s.ctl.frst = false) (quiet : Quiet s) :
    ∃ t, reconfigure s = .next t ∧ t.history = configureEvents s.cfg s.eng.bitrate s.ctl ++ s.history ∧
      t.sig = s.sig ∧ t.busIdle = s.busIdle := by
  refine ⟨_, reconfigure_valid valid, ?_⟩
  have done := configureToC5_did (s := latchOperand s.eng.bitrate (enter .v5 (goto .v5 (goto .v4 s))))
    (held_of_frst frst) rst (alone_of_quiet 6 quiet)
  exact ⟨done.history, done.sig, done.busIdle⟩

/-- Settles O32: V1, then V2, V3 and CONFIGURE by the engine alone. -/
theorem fullRecoveryAccessSequence : Obligations.FullRecoveryAccessSequence := by
  intro s idle admitted quiet
  have valid := (validBitrate_iff s.cfg s.eng.bitrate).mpr admitted
  obtain ⟨quiet', history, sig, wire, frst, pd, rst, txen⟩ := assertReset_quiet quiet
  obtain ⟨bitrate, -, cfg⟩ := released_eng s.inIsr s
  have hold := holdReset_did (s := assertReset s) s.inIsr (alone_of_quiet 1 quiet')
  have release := releaseReset_did (s := holdReset s.inIsr (assertReset s)) (by rw [hold.ctl]; exact frst)
    (alone_of_quiet 2 (hold.quiet quiet'))
  have released := hold.trans release
  obtain ⟨t, ht, events, sig', wire'⟩ := reconfigure_quiet (s := releaseReset (holdReset s.inIsr (assertReset s)))
    (by rw [cfg, bitrate]; exact valid) (by rw [released.ctl]) (by rw [released.ctl, hold.ctl]; exact frst)
    (released.quiet quiet')
  have run : exec .recoverFull s = .next (toIdle t) := by
    refine (runOperation_idle (f := fun u => recoverFull u.inIsr u) idle).trans ?_
    rw [recoverFull, recoverFromV2, ht]; rfl
  refine ⟨_, run, ?_, (sig'.trans released.sig).trans sig, (wire'.trans released.busIdle).trans wire⟩
  rw [toIdle_history, events, released.history, history, cfg, bitrate, released.ctl]
  have same := (assertReset_path s).cfg
  have on := controlByte_of_fields s.cfg.layout pd rst frst txen
  have off := controlByte_of_fields s.cfg.layout (k := { (assertReset s).ctl with rst := false }) pd rfl frst txen
  have power (v : Bool) := controlByte_of_fields s.cfg.layout
    (k := { (assertReset s).ctl with rst := false, pd := v }) rfl rfl frst txen
  simp only [configureEvents, hold.ctl, hold.cfg, same, on, off, power]
  simp [flag, divLow, divHigh, divHighField, divisor]

end Sys2Proof.Machine
end

section
/-! PROOF. WAIT_IDLE and the completion waits (42_idle_detector.md, 44_completion_waiter.md R140 to R142): what one poll shows, how the loops end, what they record, and how long they run. -/

namespace Sys2Proof.Machine

/-- The end of an internal operation that left the response and the draws alone. -/
theorem responseSettled_of {s u : State} (rsp : u.eng.rsp = s.eng.rsp) (draws : u.draws = s.draws) :
    ResponseSettled s (toIdle (settleResponse u)) := by
  rw [endInternal_eq, rsp, draws]; exact ⟨rfl, rfl⟩

theorem responseSettled_of_kept {K : List Kind} {s u : State} (kept : Kept K s u)
    (rsp : .respond ∉ K ∧ .request ∉ K ∧ .forget ∉ K)
    (draws : .read .wrData ∉ K ∧ .read .rdData ∉ K ∧ .write .control ∉ K ∧ .forget ∉ K) :
    ResponseSettled s (toIdle (settleResponse u)) :=
  responseSettled_of (kept.rsp rsp) (kept.draws draws)

/-- The result of an internal operation is the one its body returned. -/
theorem endInternal_res (u : State) : (toIdle (settleResponse u)).eng.res = u.eng.res := by rw [endInternal_eq]

/-- The other agents record no access of the engine. -/
theorem others_grows (s : State) : Grows (Emits []) s (others s) := (others_path s).grows

/-! WAIT_IDLE. -/

/-- A poll of `STATUS2` shows the idle condition at the read. -/
theorem shows_idlePoll (s : State) : shows Layout.idle (idlePoll s) = idleFlag s := by
  rw [shows, idlePoll, loadStatus_eng, loadStatus_cfg]
  exact hasBit_status2Byte_idle (goto .i1 s)

/-- A poll of an idle wire, or of a controller powered down, ends the loop. -/
theorem idleLoop_idle {s : State} (n : Nat) (idle : idleFlag s = true) :
    idleLoop (n + 1) s = returnOk (goto .i2 (idlePoll s)) := by
  rw [idleLoop, idleDecide, if_pos (by rw [shows_idlePoll]; exact idle)]

/-- A poll of a busy wire goes on after a delay. -/
theorem idleLoop_busy {s : State} (n : Nat) (busy : idleFlag s = false) :
    idleLoop (n + 1) s = idleLoop n (idleDelay (goto .i2 (idlePoll s))) := by
  rw [idleLoop, idleDecide, if_neg (by rw [shows_idlePoll, busy]; decide)]

theorem idleLoop_res (n : Nat) (s : State) :
    (idleLoop n s).eng.res = .ok ∨ (idleLoop n s).eng.res = .err .busBusy := by
  induction n generalizing s with
  | zero => exact .inr rfl
  | succ n ih =>
    cases idle : idleFlag s with
    | true => rw [idleLoop_idle n idle]; exact .inl rfl
    | false => rw [idleLoop_busy n idle]; exact ih _

theorem waitIdle_res (s : State) : (waitIdle s).eng.res = .ok ∨ (waitIdle s).eng.res = .err .busBusy := idleLoop_res _ _

/-- WAIT_IDLE with an idle wire, or of a controller powered down, ends at its first poll, under any schedule. -/
theorem waitIdle_idle {s : State} (attempts : 1 ≤ s.cfg.idleAttempts) (idle : idleFlag s = true) :
    waitIdle s = returnOk (goto .i2 (idlePoll (loadIdleAttempts s))) := by
  obtain ⟨n, count⟩ := Nat.exists_eq_add_of_le' attempts
  rw [waitIdle, count]
  exact idleLoop_idle (s := loadIdleAttempts s) n idle

theorem idlePoll_did {s : State} (a : Alone 1 s) :
    Did 1 s (idlePoll s) s.ctl [.rd .eng .status2 (status2Byte s)] :=
  (loadStatus_did (r := .status2) (s := goto .i1 s) rfl a).after_work rfl

theorem idleCount_shared (s : State) : shared (idleCount s) = shared s := rfl

theorem idleDelay_did {s : State} (a : Alone 1 s) : Did 1 s (idleDelay s) s.ctl [.delayUs s.cfg.idlePollUs] :=
  ((delayUs_did s.cfg.idlePollUs (s := goto .i3 s) a).after_work rfl).then_work (idleCount_shared _)

/-- One round of the loop at a busy wire. -/
theorem idleRound_did {s : State} (a : Alone 2 s) :
    Did 2 s (idleDelay (goto .i2 (idlePoll s))) s.ctl [.delayUs s.cfg.idlePollUs, .rd .eng .status2 (status2Byte s)] := by
  have poll := (idlePoll_did (a.of_le (by decide))).then_work (u := goto .i2 (idlePoll s)) rfl
  have delay := idleDelay_did (s := goto .i2 (idlePoll s)) (poll.alone (m := 1) a)
  rw [poll.ctl, poll.cfg] at delay
  exact poll.trans delay

/-- One more round of a loop stands before its later rounds, which are newer. -/
theorem flatten_replicate_append {α : Type} (n : Nat) (round : List α) :
    (List.replicate n round).flatten ++ round = (List.replicate (n + 1) round).flatten := by
  rw [List.replicate_succ', List.flatten_append, List.flatten_singleton]

/-- The engine alone polls a busy wire to the end of its attempts. -/
theorem idleLoop_exhausts {n : Nat} {s : State} (busy : idleFlag s = false) (a : Alone (2 * n) s) :
    Did (2 * n) s (idleLoop n s) s.ctl
      (List.replicate n [Event.delayUs s.cfg.idlePollUs, .rd .eng .status2 (status2Byte s)]).flatten ∧
    (idleLoop n s).eng.res = .err .busBusy := by
  induction n generalizing s with
  | zero => exact ⟨.work rfl, rfl⟩
  | succ n ih =>
    rw [Nat.mul_succ, Nat.add_comm] at a ⊢
    have round := idleRound_did (a.of_le (by omega))
    have busy' : idleFlag (idleDelay (goto .i2 (idlePoll s))) = false := by
      rw [idleFlag, round.ctl, round.busIdle]; exact busy
    have same : status2Byte (idleDelay (goto .i2 (idlePoll s))) = status2Byte s :=
      status2Byte_congr round.cfg (congrArg _ round.ctl) (congrArg _ round.ctl) (congrArg _ round.ctl) round.busIdle
    obtain ⟨rest, res⟩ := ih busy' (round.alone a)
    rw [round.ctl, round.cfg, same] at rest
    rw [idleLoop_busy n busy, ← flatten_replicate_append]
    exact ⟨round.trans rest, res⟩

/-- WAIT_IDLE by the engine alone, with an idle wire or a controller powered down. -/
theorem waitIdle_idle_did {s : State} (attempts : 1 ≤ s.cfg.idleAttempts) (idle : idleFlag s = true) (a : Alone 1 s) :
    Did 1 s (waitIdle s) s.ctl [.rd .eng .status2 (status2Byte s)] ∧ (waitIdle s).eng.res = .ok := by
  rw [waitIdle_idle attempts idle]
  exact ⟨((idlePoll_did (s := loadIdleAttempts s) a).after_work rfl).then_work rfl, rfl⟩

/-- WAIT_IDLE by the engine alone, at a busy wire. -/
theorem waitIdle_busy_did {s : State} (busy : idleFlag s = false) (a : Alone (2 * s.cfg.idleAttempts) s) :
    Did (2 * s.cfg.idleAttempts) s (waitIdle s) s.ctl
      (List.replicate s.cfg.idleAttempts [Event.delayUs s.cfg.idlePollUs, .rd .eng .status2 (status2Byte s)]).flatten ∧
    (waitIdle s).eng.res = .err .busBusy := by
  obtain ⟨done, res⟩ := idleLoop_exhausts (s := loadIdleAttempts s) busy a
  exact ⟨done.after_work rfl, res⟩

theorem idleFlag_of_busy {s : State} (pd : s.ctl.pd = false) (wire : s.busIdle = false) : idleFlag s = false := by
  rw [idleFlag, pd, wire]; rfl

/-- A quiet operation of the engine that only reads. -/
theorem exec_waitIdle {s : State} (idle : s.eng.phase = .idle) :
    exec .waitIdle s = .next (toIdle (settleResponse (waitIdle s))) := runOperation_total (body := waitIdle) idle

/-- Settles O18: one poll at an idle wire, else the loop to the end of its attempts. -/
theorem waitIdlePollsExactly : Obligations.WaitIdlePollsExactly := by
  intro s idle attempts quiet
  refine ⟨_, exec_waitIdle idle, rfl, ?_⟩
  have kept := (waitIdle_path s).kept
  have settled := responseSettled_of_kept kept (by decide) (by decide)
  rw [endInternal_res]
  rw [endInternal_eq] at settled ⊢
  have record := And.intro (kept.tocnt (by decide)) (And.intro (kept.bitrate (by decide)) (kept.req (by decide)))
  cases wire : idleFlag s with
  | true =>
    obtain ⟨done, res⟩ := waitIdle_idle_did attempts wire (alone_of_quiet _ quiet)
    exact ⟨done.ctl, done.busIdle, done.sig, done.irqMask, done.isr, done.results, settled, record.1, record.2.1, record.2.2,
      fun _ => ⟨res, done.history⟩, fun pd busy => Bool.noConfusion ((idleFlag_of_busy pd busy).symm.trans wire)⟩
  | false =>
    obtain ⟨done, res⟩ := waitIdle_busy_did wire (alone_of_quiet _ quiet)
    exact ⟨done.ctl, done.busIdle, done.sig, done.irqMask, done.isr, done.results, settled, record.1, record.2.1, record.2.2,
      fun idle => Bool.noConfusion (wire.symm.trans ((idleFlag_iff s).mpr idle)), fun _ _ => ⟨res, done.history⟩⟩

/-- A read of `STATUS2` by the engine. -/
def isStatus2Read : Event → Bool
  | .rd .eng .status2 _ => true
  | _ => false

/-- An engine step without a read of `STATUS2` does not change their count. -/
theorem Path.status2Reads {K : List Kind} {s t : State} (h : Path K s t) (none : .read .status2 ∉ K) :
    occurs isStatus2Read t = occurs isStatus2Read s :=
  (h.grows.mono fun x emits => by
    cases x with
    | rd who r v =>
      cases who with
      | eng =>
        cases r with
        | status2 => exact absurd emits none
        | _ => rfl
      | _ => rfl
    | _ => rfl).occurs

theorem idlePoll_reads (s : State) : occurs isStatus2Read (idlePoll s) = occurs isStatus2Read s + 1 := by
  have others := (others_path (K := []) (latchS (regRead .eng .status2 (goto .i1 s)))).status2Reads (by decide)
  refine others.trans ?_
  rw [occurs, latchS_history, regRead_history, List.countP_cons]; rfl

theorem idleDelay_reads (s : State) : occurs isStatus2Read (idleDelay s) = occurs isStatus2Read s := by
  have path : Path [.delay] s (idleDelay s) :=
    (Path.edit s (goto .i3 s) rfl).trans ((delayUs_path (by decide) _ (goto .i3 s)).trans (idleCount_path _))
  exact path.status2Reads (by decide)

/-- A loop of `n` attempts reads `STATUS2` at most `n` times, and with an attempt at least once. -/
theorem idleLoop_reads (n : Nat) (s : State) :
    occurs isStatus2Read (idleLoop n s) ≤ occurs isStatus2Read s + n ∧
    (1 ≤ n → occurs isStatus2Read s + 1 ≤ occurs isStatus2Read (idleLoop n s)) := by
  induction n generalizing s with
  | zero => exact ⟨Nat.le_refl _, fun h => absurd h (by decide)⟩
  | succ n ih =>
    have poll := idlePoll_reads s
    cases idle : idleFlag s with
    | true =>
      rw [idleLoop_idle n idle]
      have ended : occurs isStatus2Read (returnOk (goto .i2 (idlePoll s))) = occurs isStatus2Read s + 1 := poll
      omega
    | false =>
      rw [idleLoop_busy n idle]
      have delay : occurs isStatus2Read (idleDelay (goto .i2 (idlePoll s))) = occurs isStatus2Read s + 1 :=
        (idleDelay_reads _).trans poll
      obtain ⟨most, -⟩ := ih (idleDelay (goto .i2 (idlePoll s)))
      have least : occurs isStatus2Read (idleDelay (goto .i2 (idlePoll s))) ≤
          occurs isStatus2Read (idleLoop n (idleDelay (goto .i2 (idlePoll s)))) := by
        obtain ⟨h, history, -⟩ := (idleLoop_path n (idleDelay (goto .i2 (idlePoll s)))).grows
        rw [occurs, occurs, history, List.countP_append]; exact Nat.le_add_left _ _
      omega

/-- Settles O19: the bounds of `idleLoop_reads`, and a path that only reads and delays. -/
theorem waitIdleIsBounded : Obligations.WaitIdleIsBounded := by
  intro s idle attempts
  have path := waitIdle_path s
  have kept := path.kept
  obtain ⟨h, history, emits⟩ := path.grows
  obtain ⟨most, least⟩ := idleLoop_reads s.cfg.idleAttempts (loadIdleAttempts s)
  have count : occurs isStatus2Read (waitIdle s) = h.countP isStatus2Read + occurs isStatus2Read s := by
    rw [occurs, history, List.countP_append]; rfl
  have start : occurs isStatus2Read (loadIdleAttempts s) = occurs isStatus2Read s := rfl
  change occurs isStatus2Read (waitIdle s) ≤ _ at most
  have least : _ ≤ occurs isStatus2Read (waitIdle s) := least attempts
  have reads : 1 ≤ h.countP isStatus2Read ∧ h.countP isStatus2Read ≤ s.cfg.idleAttempts := by omega
  have settled := responseSettled_of_kept kept (by decide) (by decide)
  refine ⟨_, h, exec_waitIdle idle, ?_⟩
  rw [endInternal_res]
  rw [endInternal_eq] at settled ⊢
  obtain ⟨pd, rst, frst⟩ := kept.power (by decide)
  obtain ⟨low, high⟩ := kept.timing (by decide)
  exact ⟨history, waitIdle_res s, reads.1, reads.2, fun x hx => (emits x hx).noWrite (by simp [idleKinds]), kept.tocnt (by decide),
    kept.bitrate (by decide), kept.req (by decide), settled, rfl, path.cfg, pd, rst, frst, low, high⟩

/-! DISABLE. -/

/-- A read-modify-write of `CONTROL` with nobody else to move, whatever reset bits are set. -/
theorem setControl_quiet (field : Layout → Fin 8) {s : State} (quiet : Quiet s) :
    (setControl field s).history =
      [.wr .eng .control (controlByte s.cfg.layout s.ctl ||| bit (field s.cfg.layout)),
        .rd .eng .control (controlByte s.cfg.layout s.ctl)] ++ s.history ∧
    (setControl field s).sig = s.sig ∧ (setControl field s).busIdle = s.busIdle ∧ (setControl field s).isr = s.isr := by
  have read := loadControl_did (alone_of_quiet 1 quiet)
  have eq : setControl field s = regWrite .eng .control
      (controlByte s.cfg.layout s.ctl ||| bit (field s.cfg.layout)) (loadControl s) := by
    rw [setControl, storeControlOr, store_quiet _ _ (read.quiet quiet), loadControl_eng, loadControl_cfg]
  rw [eq, regWrite_history, regWrite_sig, regWrite_busIdle, regWrite_isr, read.history]
  exact ⟨rfl, read.sig, read.busIdle, read.isr⟩

/-- The idle check of DISABLE. -/
def disableCheck (s : State) : State := call .b0 waitIdle (goto .b0 s)

theorem disableCheck_path (s : State) : Path idleKinds s (disableCheck s) :=
  (Path.edit s (goto .b0 s) rfl).trans (call_path _ waitIdle_path _)

/-- The end of DISABLE after an idle wire: the mask, `Ok`, its code. -/
theorem maskEnds_eq (u : State) : endOperation .disable (maskLine u) = { u with
    eng := { u.eng with res := .ok, phase := .idle }
    irqMask := if u.cfg.mode = .event then true else u.irqMask, results := u.results ++ [u.cfg.errCode.ok] } := by
  rw [maskLine, setIrqMask_eq, endOperation, endPublic_eq]; rfl

theorem disable_idle {s : State} (ok : (disableCheck s).eng.res = .ok) :
    endOperation .disable (disable s) =
      endOperation .disable (maskLine (setControl Layout.pd (goto .b1 (disableCheck s)))) := by
  exact congrArg (endOperation .disable) (if_pos ((returnedOk_iff _).mpr ok))

theorem disable_busy {s : State} (busy : (disableCheck s).eng.res = .err .busBusy) :
    endOperation .disable (disable s) = endPublic [codeOf (disableCheck s)] (disableCheck s) := by
  have failed : ¬ returnedOk (disableCheck s) = true := by rw [returnedOk_iff, busy]; decide
  exact congrArg (endOperation .disable) (if_neg failed)

theorem exec_disable {s : State} (idle : s.eng.phase = .idle) :
    exec .disable s = .next (endOperation .disable (disable s)) := runOperation_total (body := disable) idle

theorem disableCheck_res (s : State) : (disableCheck s).eng.res = .ok ∨ (disableCheck s).eng.res = .err .busBusy :=
  waitIdle_res _

theorem disableCheck_idle_did {s : State} (attempts : 1 ≤ s.cfg.idleAttempts) (idle : idleFlag s = true) (a : Alone 1 s) :
    Did 1 s (disableCheck s) s.ctl [.rd .eng .status2 (status2Byte s)] ∧ (disableCheck s).eng.res = .ok := by
  obtain ⟨done, ok⟩ := waitIdle_idle_did (s := enter .b0 (goto .b0 s)) attempts idle a
  exact ⟨(Did.call (s := goto .b0 s) done).after_work rfl, ok⟩

theorem disableCheck_busy_did {s : State} (busy : idleFlag s = false) (a : Alone (2 * s.cfg.idleAttempts) s) :
    Did (2 * s.cfg.idleAttempts) s (disableCheck s) s.ctl
      (List.replicate s.cfg.idleAttempts [Event.delayUs s.cfg.idlePollUs, .rd .eng .status2 (status2Byte s)]).flatten ∧
    (disableCheck s).eng.res = .err .busBusy := by
  obtain ⟨done, failed⟩ := waitIdle_busy_did (s := enter .b0 (goto .b0 s)) busy a
  exact ⟨(Did.call (s := goto .b0 s) done).after_work rfl, failed⟩

/-- Settles O16: the idle check decides; under any schedule by the fields of the read-modify-write, quiet by its accesses. -/
theorem disableChecksIdleThenPowersDown : Obligations.DisableChecksIdleThenPowersDown := by
  intro s idle
  refine ⟨_, exec_disable idle, ?_⟩
  have path := disableCheck_path s
  have kept := path.kept
  obtain ⟨hpd, hrst, hfrst⟩ := kept.power (by decide)
  obtain ⟨low, high⟩ := kept.timing (by decide)
  rcases disableCheck_res s with ok | busy
  · rw [disable_idle ok, maskEnds_eq]
    have later : Path controlKinds (disableCheck s) (setControl Layout.pd (goto .b1 (disableCheck s))) :=
      (Path.edit (disableCheck s) (goto .b1 (disableCheck s)) rfl).trans (setControl_path _ _)
    have both : Path disableKinds s (setControl Layout.pd (goto .b1 (disableCheck s))) :=
      (path.mono (by decide)).trans (later.mono (by decide))
    have all := both.kept
    have mask := (later.kept.irqMask (by decide)).trans (kept.irqMask (by decide))
    obtain ⟨pd, rst, frst⟩ := setControl_fields Layout.pd (goto .b1 (disableCheck s))
    have on : (setControl Layout.pd (goto .b1 (disableCheck s))).ctl.pd = true := pd.trans (by simp)
    rw [both.cfg, all.results (by decide), mask]
    refine ⟨rfl, rfl, .inl ⟨rfl, on, rfl, (later.kept.rsp (by decide)).trans (kept.rsp (by decide))⟩,
      (rst.trans (by simp)).trans hrst, (frst.trans (by simp)).trans hfrst, fun out => ?_, all.bitrate (by decide),
      all.tocnt (by decide), all.req (by decide), rfl, all.intEn1 (by decide), all.intEn2 (by decide),
      fun quiet attempts => ?_⟩
    · obtain ⟨low', high'⟩ := setControl_timing (field := Layout.pd) (s := goto .b1 (disableCheck s)) (hrst.trans out)
        (Layout.pd_ne_rst _)
      exact ⟨low'.trans low, high'.trans high⟩
    cases wire : idleFlag s with
    | true =>
      obtain ⟨done, -⟩ := disableCheck_idle_did attempts wire (alone_of_quiet _ quiet)
      obtain ⟨events, sig, bus, isr⟩ := setControl_quiet Layout.pd (s := goto .b1 (disableCheck s)) (done.quiet quiet)
      rw [goto_ctl, goto_cfg, goto_history, done.ctl, done.cfg, controlByte_or_pd, done.history] at events
      refine ⟨sig.trans done.sig, bus.trans done.busIdle, isr.trans done.isr,
        fun _ => ⟨rfl, on, events, fun c out => ?_⟩, fun pd busy => Bool.noConfusion ((idleFlag_of_busy pd busy).symm.trans wire)⟩
      have set := setPd_did (s := goto .b1 (disableCheck s)) (by rw [goto_ctl, done.ctl]; exact held_of_consistent c)
        (hrst.trans out) (alone_of_quiet 2 (done.quiet quiet))
      rw [goto_ctl, done.ctl] at set
      exact ⟨set.ctl, set.draws.trans done.draws⟩
    | false =>
      obtain ⟨-, failed⟩ := disableCheck_busy_did wire (alone_of_quiet _ quiet)
      rw [failed] at ok; cases ok
  · rw [disable_busy busy, endPublic_eq, codeOf, path.cfg, kept.results (by decide), kept.draws (by decide)]
    have settled : ResponseSettled s (endPublic [codeOf (disableCheck s)] (disableCheck s)) := by
      rw [endPublic_eq, kept.rsp (by decide), kept.draws (by decide)]; exact ⟨rfl, rfl⟩
    rw [endPublic_eq, codeOf, path.cfg, kept.results (by decide), kept.draws (by decide)] at settled
    refine ⟨rfl, rfl, .inr ⟨busy, hpd, kept.irqMask (by decide), settled⟩, hrst, hfrst, fun _ => ⟨low, high⟩,
      kept.bitrate (by decide), kept.tocnt (by decide), kept.req (by decide), rfl, kept.intEn1 (by decide),
      kept.intEn2 (by decide), fun quiet attempts => ?_⟩
    cases wire : idleFlag s with
    | true =>
      obtain ⟨-, ok⟩ := disableCheck_idle_did attempts wire (alone_of_quiet _ quiet)
      rw [ok] at busy; cases busy
    | false =>
      obtain ⟨done, -⟩ := disableCheck_busy_did wire (alone_of_quiet _ quiet)
      exact ⟨done.sig, done.busIdle, done.isr,
        fun idle => Bool.noConfusion (wire.symm.trans ((idleFlag_iff s).mpr idle)), fun _ _ => ⟨busy, done.ctl, done.history⟩⟩

/-- DISABLE of a controller that is powered down ends in `Ok`, powered down. -/
theorem disable_poweredDown {s : State} (idle : s.eng.phase = .idle) (attempts : 1 ≤ s.cfg.idleAttempts)
    (pd : s.ctl.pd = true) : ∃ t, exec .disable s = .next t ∧ t.eng.res = .ok ∧ t.ctl.pd = true ∧
      t.eng.phase = .idle ∧ t.cfg = s.cfg := by
  have wire : idleFlag (enter .b0 (goto .b0 s)) = true := (idleFlag_iff _).mpr (.inl pd)
  have ok : (disableCheck s).eng.res = .ok := by
    rw [disableCheck, call, waitIdle_idle (s := enter .b0 (goto .b0 s)) attempts wire]; rfl
  obtain ⟨on, -, -⟩ := setControl_fields Layout.pd (goto .b1 (disableCheck s))
  refine ⟨_, exec_disable idle, ?_⟩
  rw [disable_idle ok, maskEnds_eq]
  exact ⟨rfl, on.trans (by simp), rfl, (setControl_cfg _ _).trans (disableCheck_path s).cfg⟩

/-- Settles O17: by `disable_poweredDown`, twice. -/
theorem disableTwiceSucceeds : Obligations.DisableTwiceSucceeds := by
  intro s idle attempts pd
  obtain ⟨t, run, ok, off, phase, cfg⟩ := disable_poweredDown idle attempts pd
  obtain ⟨u, again, ok', off', -⟩ := disable_poweredDown phase (cfg ▸ attempts) off
  exact ⟨t, run, ok, off, u, again, ok', off'⟩

end Sys2Proof.Machine
end

section
/-! PROOF. The completion waits (44_completion_waiter.md R140 to R142): the polled loop ends on a read of `EOF` as 1 or after its attempts, the event wait on the signal or on its budget. -/

namespace Sys2Proof.Machine

/-! WAIT_POLL. -/

/-- A poll of `STATUS1` shows `EOF` at the read. -/
theorem shows_txPoll (s : State) : shows Layout.eof (txPoll s) = s.ctl.eof := by
  rw [shows, txPoll, loadStatus_eng, loadStatus_cfg]
  exact hasBit_status1Byte_eof s.cfg.layout s.ctl

theorem pollLoop_done {s : State} (n : Nat) (eof : s.ctl.eof = true) :
    pollLoop (n + 1) s = returnOk (goto .p2 (txPoll s)) := by
  rw [pollLoop, txDecide, if_pos (by rw [shows_txPoll]; exact eof)]

theorem pollLoop_again {s : State} (n : Nat) (eof : s.ctl.eof = false) :
    pollLoop (n + 1) s = pollLoop n (txDelay (goto .p2 (txPoll s))) := by
  rw [pollLoop, txDecide, if_neg (by rw [shows_txPoll, eof]; decide)]

theorem pollLoop_res (n : Nat) (s : State) :
    (pollLoop n s).eng.res = .ok ∨ (pollLoop n s).eng.res = .err .timeout := by
  induction n generalizing s with
  | zero => exact .inr rfl
  | succ n ih =>
    cases eof : s.ctl.eof with
    | true => rw [pollLoop_done n eof]; exact .inl rfl
    | false => rw [pollLoop_again n eof]; exact ih _

theorem waitPoll_res (s : State) : (waitPoll s).eng.res = .ok ∨ (waitPoll s).eng.res = .err .timeout := pollLoop_res _ _

/-- WAIT_POLL with `EOF` set ends at its first poll. -/
theorem waitPoll_done {s : State} (attempts : 1 ≤ s.cfg.txPollAttempts) (eof : s.ctl.eof = true) :
    waitPoll s = returnOk (goto .p2 (txPoll (loadTxAttempts s))) := by
  obtain ⟨n, count⟩ := Nat.exists_eq_add_of_le' attempts
  rw [waitPoll, count]
  exact pollLoop_done (s := loadTxAttempts s) n eof

theorem txPoll_did {s : State} (a : Alone 1 s) :
    Did 1 s (txPoll s) s.ctl [.rd .eng .status1 (status1Byte s.cfg.layout s.ctl)] :=
  (loadStatus_did (r := .status1) (s := goto .p1 s) rfl a).after_work rfl

theorem txCount_shared (s : State) : shared (txCount s) = shared s := rfl

theorem txDelay_did {s : State} (a : Alone 1 s) : Did 1 s (txDelay s) s.ctl [.delayUs s.cfg.txPollUs] :=
  ((delayUs_did s.cfg.txPollUs (s := goto .p3 s) a).after_work rfl).then_work (txCount_shared _)

/-- `STATUS1` with `EOF` clear. -/
theorem status1Byte_clear (l : Layout) {k : Controller} (eof : k.eof = false) : status1Byte l k = 0x00 := by
  rw [status1Byte, eof]; rfl

theorem status1Byte_set (l : Layout) {k : Controller} (eof : k.eof = true) : status1Byte l k = bit l.eof := by
  rw [status1Byte, eof]; rfl

/-- One round of the loop with `EOF` clear. -/
theorem txRound_did {s : State} (eof : s.ctl.eof = false) (a : Alone 2 s) :
    Did 2 s (txDelay (goto .p2 (txPoll s))) s.ctl [.delayUs s.cfg.txPollUs, .rd .eng .status1 0x00] := by
  have poll := (txPoll_did (a.of_le (by decide))).then_work (u := goto .p2 (txPoll s)) rfl
  rw [status1Byte_clear _ eof] at poll
  have delay := txDelay_did (s := goto .p2 (txPoll s)) (poll.alone (m := 1) a)
  rw [poll.ctl, poll.cfg] at delay
  exact poll.trans delay

/-- The engine alone polls to the end of its attempts. -/
theorem pollLoop_exhausts {n : Nat} {s : State} (eof : s.ctl.eof = false) (a : Alone (2 * n) s) :
    Did (2 * n) s (pollLoop n s) s.ctl
      (List.replicate n [Event.delayUs s.cfg.txPollUs, .rd .eng .status1 0x00]).flatten ∧
    (pollLoop n s).eng.res = .err .timeout := by
  induction n generalizing s with
  | zero => exact ⟨.work rfl, rfl⟩
  | succ n ih =>
    rw [Nat.mul_succ, Nat.add_comm] at a ⊢
    have round := txRound_did eof (a.of_le (by omega))
    obtain ⟨rest, res⟩ := ih (by rw [round.ctl]; exact eof) (round.alone a)
    rw [round.ctl, round.cfg] at rest
    rw [pollLoop_again n eof, ← flatten_replicate_append]
    exact ⟨round.trans rest, res⟩

theorem waitPoll_done_did {s : State} (attempts : 1 ≤ s.cfg.txPollAttempts) (eof : s.ctl.eof = true) (a : Alone 1 s) :
    Did 1 s (waitPoll s) s.ctl [.rd .eng .status1 (bit s.cfg.layout.eof)] ∧ (waitPoll s).eng.res = .ok := by
  rw [waitPoll_done attempts eof]
  have poll := ((txPoll_did (s := loadTxAttempts s) a).after_work (s := s) rfl).then_work
    (u := returnOk (goto .p2 (txPoll (loadTxAttempts s)))) rfl
  rw [status1Byte_set _ (k := (loadTxAttempts s).ctl) eof] at poll
  exact ⟨poll, rfl⟩

theorem waitPoll_exhausts_did {s : State} (eof : s.ctl.eof = false) (a : Alone (2 * s.cfg.txPollAttempts) s) :
    Did (2 * s.cfg.txPollAttempts) s (waitPoll s) s.ctl
      (List.replicate s.cfg.txPollAttempts [Event.delayUs s.cfg.txPollUs, .rd .eng .status1 0x00]).flatten ∧
    (waitPoll s).eng.res = .err .timeout := by
  obtain ⟨done, res⟩ := pollLoop_exhausts (s := loadTxAttempts s) eof a
  exact ⟨done.after_work rfl, res⟩

theorem exec_waitPoll {s : State} (idle : s.eng.phase = .idle) :
    exec .waitPoll s = .next (toIdle (settleResponse (waitPoll s))) := runOperation_total (body := waitPoll) idle

/-- Settles O20: one poll with `EOF` set, else the loop to the end of its attempts. -/
theorem waitPollPollsExactly : Obligations.WaitPollPollsExactly := by
  intro s idle attempts quiet
  refine ⟨_, exec_waitPoll idle, rfl, ?_⟩
  have kept := (waitPoll_path s).kept
  have settled := responseSettled_of_kept kept (by decide) (by decide)
  rw [endInternal_res]
  rw [endInternal_eq] at settled ⊢
  have record := And.intro (kept.tocnt (by decide)) (And.intro (kept.bitrate (by decide)) (kept.req (by decide)))
  cases eof : s.ctl.eof with
  | true =>
    obtain ⟨done, res⟩ := waitPoll_done_did attempts eof (alone_of_quiet _ quiet)
    exact ⟨done.ctl, done.busIdle, done.sig, done.irqMask, done.isr, done.results, settled, record.1, record.2.1, record.2.2,
      fun _ => ⟨res, done.history⟩, fun clear => Bool.noConfusion clear⟩
  | false =>
    obtain ⟨done, res⟩ := waitPoll_exhausts_did eof (alone_of_quiet _ quiet)
    exact ⟨done.ctl, done.busIdle, done.sig, done.irqMask, done.isr, done.results, settled, record.1, record.2.1, record.2.2,
      fun set => Bool.noConfusion set, fun _ => ⟨res, done.history⟩⟩

/-! Both strategies. -/

/-- From `a` to `b` an event was recorded. -/
def Records (x : Event) (a b : State) : Prop := ∃ h, b.history = h ++ a.history ∧ x ∈ h

/-- An event on the way stays recorded. -/
theorem Records.then {x : Event} {Q : Event → Prop} {a b c : State} (h : Records x a b) (k : Grows Q b c) : Records x a c := by
  obtain ⟨e, history, mem⟩ := h
  obtain ⟨f, history', -⟩ := k
  exact ⟨f ++ e, by rw [history', history, List.append_assoc], List.mem_append_right f mem⟩

theorem Records.after {x : Event} {Q : Event → Prop} {a b c : State} (k : Grows Q a b) (h : Records x b c) : Records x a c := by
  obtain ⟨e, history, mem⟩ := h
  obtain ⟨f, history', -⟩ := k
  exact ⟨e ++ f, by rw [history, history', List.append_assoc], List.mem_append_left f mem⟩

/-- A status read records the value read. -/
theorem loadStatus_records (r : Reg) (s : State) : Records (.rd .eng r (readReg r s).1) s (loadStatus r s) :=
  Records.then (b := latchS (regRead .eng r s)) ⟨[_], regRead_history _ _ _, List.mem_singleton.mpr rfl⟩ (others_grows _)

/-- WAIT_POLL succeeds on a read of `EOF` as 1 (R140). -/
theorem pollLoop_records {n : Nat} {s : State} (ok : (pollLoop n s).eng.res = .ok) :
    Records (.rd .eng .status1 (bit s.cfg.layout.eof)) s (pollLoop n s) := by
  induction n generalizing s with
  | zero => cases ok
  | succ n ih =>
    cases eof : s.ctl.eof with
    | true =>
      rw [pollLoop_done n eof]
      have read := loadStatus_records .status1 (goto .p1 s)
      rw [show (readReg .status1 (goto .p1 s)).1 = bit s.cfg.layout.eof from status1Byte_set _ eof] at read
      exact read
    | false =>
      rw [pollLoop_again n eof] at ok ⊢
      have path : Path pollKinds s (txDelay (goto .p2 (txPoll s))) :=
        (txPoll_path s).trans ((Path.edit (txPoll s) (goto .p2 (txPoll s)) rfl).trans (txDelay_path _))
      have later := ih ok
      rw [path.cfg] at later
      exact .after path.grows later

theorem decideEvent_res (s : State) :
    (decideEvent s).eng.res = .ok ∨ (decideEvent s).eng.res = .err .timeout := by
  unfold decideEvent; split
  · exact .inl rfl
  · exact .inr rfl

theorem eventLoop_res (l : List Turn) (s : State) :
    (eventLoop l s).eng.res = .ok ∨ (eventLoop l s).eng.res = .err .timeout := by
  induction l generalizing s with
  | nil => exact decideEvent_res _
  | cons t l ih =>
    cases t with
    | eng =>
      unfold eventLoop; split
      · exact .inl rfl
      · exact ih s
    | expire =>
      unfold eventLoop; split
      · exact ih s
      · exact .inr rfl
    | _ => exact ih _

theorem waitEvent_res (len : Byte) (s : State) :
    (waitEvent len s).eng.res = .ok ∨ (waitEvent len s).eng.res = .err .timeout := by
  unfold waitEvent; split
  · exact decideEvent_res _
  · exact eventLoop_res _ _

theorem exec_waitEvent {s : State} (idle : s.eng.phase = .idle) :
    exec .waitEvent s = .next (toIdle (settleResponse (waitEventOfRequest s))) :=
  runOperation_total (body := waitEventOfRequest) idle

/-- Settles O21: each wait is a path of polls and delays, or of the signal alone. -/
theorem completionWaitsKeepTheContract : Obligations.CompletionWaitsKeepTheContract := by
  intro i s which idle
  rcases which with rfl | rfl
  · have path := waitPoll_path s
    have kept := path.kept
    obtain ⟨h, history, emits⟩ := path.grows
    have settled := responseSettled_of_kept kept (by decide) (by decide)
    obtain ⟨pd, rst, frst⟩ := kept.power (by decide)
    obtain ⟨low, high⟩ := kept.timing (by decide)
    refine ⟨_, h, exec_waitPoll idle, ?_⟩
    rw [endInternal_res]
    rw [endInternal_eq] at settled ⊢
    refine ⟨history, waitPoll_res s, fun x hx => (emits x hx).noWrite (by simp [pollKinds]), fun _ ok => ?_, nofun,
      kept.tocnt (by decide), kept.bitrate (by decide), kept.req (by decide), settled, rfl, path.cfg,
      kept.results (by decide), pd, rst, frst, low, high⟩
    obtain ⟨e, same, mem⟩ := pollLoop_records (s := loadTxAttempts s) ok
    exact List.append_cancel_right (same.symm.trans history) ▸ mem
  · have path := waitEventOfRequest_path s
    have kept := path.kept
    obtain ⟨h, history, emits⟩ := path.grows
    have settled := responseSettled_of_kept kept (by decide) (by decide)
    obtain ⟨pd, rst, frst⟩ := kept.power (by decide)
    obtain ⟨low, high⟩ := kept.timing (by decide)
    refine ⟨_, h, exec_waitEvent idle, ?_⟩
    rw [endInternal_res]
    rw [endInternal_eq] at settled ⊢
    exact ⟨history, waitEvent_res _ s, fun x hx => (emits x hx).noWrite (by simp [eventKinds]), nofun,
      fun _ x hx => (emits x hx).noAccess (by simp [eventKinds]) (by simp [eventKinds]),
      kept.tocnt (by decide), kept.bitrate (by decide), kept.req (by decide), settled, rfl, path.cfg,
      kept.results (by decide), pd, rst, frst, low, high⟩

/-! WAIT_EVENT, case by case. -/

variable {s : State}

/-- The signal is there: it is taken at once. -/
theorem waitEvent_signalled (len : Byte) (sig : s.sig = true) : waitEvent len s = takeSignal (goto .e0 s) := by
  rw [waitEvent, if_pos (by rw [sig]; rfl), decideEvent, if_pos (show (goto .e0 s).sig = true from sig)]

/-- No budget: the choice is made at once. -/
theorem waitEvent_noBudget {len : Byte} (sig : s.sig = false) (none : eventBudget s.cfg len = 0) :
    waitEvent len s = expireWait (goto .e0 s) := by
  rw [waitEvent, if_pos (by rw [none]; simp), decideEvent, if_neg (by rw [goto_sig, sig]; decide)]

/-- A budget and no signal: the wait is suspended. -/
theorem waitEvent_suspends {len : Byte} (sig : s.sig = false) (some : eventBudget s.cfg len ≠ 0) :
    waitEvent len s = eventLoop s.turns (goto .e0 s) := by
  rw [waitEvent, if_neg (by simp [sig, some])]

/-- Settles O22: the four ways the wait goes. -/
theorem waitEventTakesOrExpires : Obligations.WaitEventTakesOrExpires := by
  intro s idle
  have run := exec_waitEvent idle
  rw [waitEventOfRequest, endInternal_eq, ← idle] at run
  refine ⟨fun sig => ?_, fun sig none => ?_, fun rest sig some order => ?_,
    fun rest sig some order place wfe mode line mask => ?_⟩
  · rw [run, waitEvent_signalled _ sig]; rfl
  · rw [run, waitEvent_noBudget sig none]; rfl
  · rw [run, waitEvent_suspends sig some, order, eventLoop, if_neg (by rw [goto_sig, sig]; decide)]; rfl
  · rw [run, waitEvent_suspends sig some, order]
    have posted : agentStep .isr (goto .e0 s) =
        { goto .e0 s with isr := { s.isr with next := .h5 }, sig := s.sig || hasBit s.isr.s2 s.cfg.layout.wfe } := by
      rw [agentStep, isrStep_enabled (irqEnabled_of (s := goto .e0 s) mode line mask), handlerStep]
      simp only [goto_isr, place]
      exact handlerH4_eq _
    rw [show hasBit s.isr.s2 s.cfg.layout.wfe = true from wfe, Bool.or_true] at posted
    have loop : eventLoop (.isr :: .eng :: rest) (goto .e0 s) = takeSignal
        { goto .e0 s with turns := rest, isr := { s.isr with next := .h5 }, sig := true } := by
      change eventLoop (.eng :: rest) (agentStep .isr (goto .e0 s)) = _
      rw [posted]; rfl
    rw [loop, sig]; rfl

end Sys2Proof.Machine
end

section
/-! PROOF. FINISH (46_finish_recover.md R170 to R175): its phases by the engine alone, and what each adds to the history under any schedule. -/

namespace Sys2Proof.Machine

variable {s : State}

/-- With nobody else to move the number of steps does not matter. -/
theorem Did.of_quiet {m n : Nat} {t : State} {k : Controller} {h : List Event} (quiet : Quiet s) (d : Did n s t k h) :
    Did m s t k h := by
  unfold Did at d ⊢
  rw [d, quiet, List.drop_nil, List.drop_nil]

/-- With nobody else to move nothing outside the engine and the controller changes. -/
theorem Did.outside {n : Nat} {t : State} {k : Controller} {h : List Event} (quiet : Quiet s) (d : Did n s t k h) :
    SameOutside s t :=
  ⟨d.cfg, d.busIdle, d.sig, d.irqMask, d.isr, d.inIsr, d.port, (d.quiet quiet).trans quiet.symm⟩

/-! F0 to F2. -/

theorem readEof_did (a : Alone 1 s) :
    Did 1 s (readEof s) s.ctl [.rd .eng .status1 (status1Byte s.cfg.layout s.ctl)] :=
  (loadStatus_did (r := .status1) (s := goto .f0 s) rfl a).after_work rfl

theorem shows_readEof (s : State) : shows Layout.eof (readEof s) = s.ctl.eof := by
  rw [shows, readEof, loadStatus_eng, loadStatus_cfg]
  exact hasBit_status1Byte_eof s.cfg.layout s.ctl

theorem clearEof_of_shows (h : shows Layout.eof s = true) :
    clearEof s = store .status1 (bit s.cfg.layout.eof) (goto .f1 s) := if_pos h

theorem clearEof_of_not_shows (h : shows Layout.eof s = false) : clearEof s = goto .f1 s := if_neg (by rw [h]; decide)

/-- The accesses of F0 and F1, newest first. -/
def eofEvents (l : Layout) (eof : Bool) : List Event :=
  if eof then [.wr .eng .status1 (bit l.eof), .rd .eng .status1 (bit l.eof)] else [.rd .eng .status1 0x00]

/-- F0 and F1: `EOF` is clear afterwards. -/
theorem clearedEof_did (quiet : Quiet s) :
    Did 2 s (clearEof (readEof s)) { s.ctl with eof := false } (eofEvents s.cfg.layout s.ctl.eof) := by
  have read := readEof_did (alone_of_quiet 1 quiet)
  have shown := shows_readEof s
  cases eof : s.ctl.eof with
  | true =>
    rw [eof] at shown
    rw [status1Byte_set _ eof] at read
    have write := (store_did (r := .status1) (v := bit (readEof s).cfg.layout.eof) (s := goto .f1 (readEof s)) rfl
      (alone_of_quiet 1 (read.quiet quiet))).after_work rfl
    have cleared : (writeReg .status1 (bit (readEof s).cfg.layout.eof) (goto .f1 (readEof s))).ctl =
        { s.ctl with eof := false } := by
      simp [writeReg, writeStatus1, read.ctl]
    rw [cleared, read.cfg] at write
    rw [clearEof_of_shows shown, read.cfg]
    exact read.trans write
  | false =>
    rw [eof] at shown
    rw [status1Byte_clear _ eof] at read
    have same : { s.ctl with eof := false } = s.ctl := by rw [← eof]
    rw [clearEof_of_not_shows shown, same]
    exact (read.then_work rfl).of_quiet quiet

theorem readErrors_did (a : Alone 1 s) : Did 1 s (readErrors s) s.ctl [.rd .eng .error s.ctl.error] :=
  (loadError_did (s := goto .f2 s) a).after_work rfl

theorem readErrors_e (s : State) : (readErrors s).eng.e = s.ctl.error := by rw [readErrors, loadError_eng]; rfl

/-- F0 to F2 by the engine alone. -/
theorem errorsRead_did (quiet : Quiet s) :
    Did 3 s (readErrors (clearEof (readEof s))) { s.ctl with eof := false }
      (.rd .eng .error s.ctl.error :: eofEvents s.cfg.layout s.ctl.eof) := by
  have cleared := clearedEof_did quiet
  have read := readErrors_did (alone_of_quiet 1 (cleared.quiet quiet))
  rw [cleared.ctl] at read
  exact cleared.trans read

/-! F3 to F7. -/

theorem judge_ok (h : s.eng.e = 0) : judge s = returnOk (goto .f3 s) := if_pos h
theorem judge_error (h : s.eng.e ≠ 0) : judge s = finishFromF4 (goto .f3 s) := if_neg h

/-- FINISH with no error, by the engine alone. -/
theorem finish_ok_did (quiet : Quiet s) (none : s.ctl.error = 0) :
    Did 3 s (finish s) { s.ctl with eof := false } (.rd .eng .error 0x00 :: eofEvents s.cfg.layout s.ctl.eof) ∧
    (finish s).eng.res = .ok := by
  have read := errorsRead_did quiet
  have e : (readErrors (clearEof (readEof s))).eng.e = 0 := by
    rw [readErrors_e, (clearedEof_did quiet).ctl]; exact none
  rw [none] at read
  rw [finish, judge_ok e]
  exact ⟨read.then_work rfl, rfl⟩

theorem exec_finish (idle : s.eng.phase = .idle) :
    exec .finish s = .next (toIdle (settleResponse (finish s))) := runOperation_total (body := finish) idle

/-- Settles O34: `finish_ok_did`. -/
theorem finishWithoutErrorSucceeds : Obligations.FinishWithoutErrorSucceeds := by
  intro s idle quiet none
  obtain ⟨done, res⟩ := finish_ok_did quiet none
  refine ⟨_, exec_finish idle, ?_⟩
  rw [endInternal_eq, res]
  refine ⟨rfl, done.ctl, ?_, done.tocnt, done.bitrate, done.req, done.rsp, rfl, done.outside quiet, done.results, done.draws⟩
  rw [done.history]
  cases s.ctl.eof <;> rfl

/-- F4, one class, by the engine alone. -/
theorem classify_did (field : Layout → Fin 8) (x : ErrorClass) (s : State) :
    Did 0 s (classify field x s) s.ctl (if hasBit s.eng.e (field s.cfg.layout) then [.log (.errorClass x)] else []) := by
  unfold classify; split
  · exact logRecord_did (.errorClass x) s
  · exact .refl s

theorem classify_eng (field : Layout → Fin 8) (x : ErrorClass) (s : State) : (classify field x s).eng = s.eng := by
  unfold classify; split <;> rfl

/-- The records of an error value, newest first. -/
def errorEvents (l : Layout) (e : Byte) : List Event :=
  (if hasBit e l.berr then [Event.log (.errorClass .berr)] else []) ++
    (if hasBit e l.wbur then [Event.log (.errorClass .wbur)] else []) ++
    if hasBit e l.rbor then [Event.log (.errorClass .rbor)] else []

/-- F4 by the engine alone. -/
theorem classifyErrors_did (s : State) :
    Did 0 s (classifyErrors s) s.ctl (errorEvents s.cfg.layout s.eng.e) ∧ (classifyErrors s).eng.e = s.eng.e := by
  have rbor := classify_did Layout.rbor .rbor (goto .f4 s)
  have wbur := classify_did Layout.wbur .wbur (classify Layout.rbor .rbor (goto .f4 s))
  have berr := classify_did Layout.berr .berr (classify Layout.wbur .wbur (classify Layout.rbor .rbor (goto .f4 s)))
  rw [classify_eng, rbor.cfg, rbor.ctl] at wbur
  have both := rbor.trans wbur
  rw [classify_eng, classify_eng, both.cfg, both.ctl] at berr
  have all := (both.trans berr).after_work (s := s) rfl
  refine ⟨?_, ?_⟩
  · rw [← List.append_assoc] at all; exact all
  · rw [classifyErrors, classify_eng, classify_eng, classify_eng]; rfl

theorem clearErrors_did (a : Alone 1 s) :
    Did 1 s (clearErrors s) { s.ctl with error := s.ctl.error &&& ~~~s.eng.e } [.wr .eng .error s.eng.e] :=
  (store_did (r := .error) (v := s.eng.e) (s := goto .f5 s) rfl a).after_work rfl

theorem failFinish_shared (s : State) : shared (failFinish s) = shared s := rfl

/-- F6 and F7 by the engine alone. -/
theorem finishFromF6_did (rst : s.ctl.rst = false) (a : Alone 2 s) :
    Did 2 s (finishFromF6 s) (dropFifosAndFrame { s.ctl with frst := true })
      [.wr .eng .control (controlByte s.cfg.layout { s.ctl with frst := true }),
        .rd .eng .control (controlByte s.cfg.layout s.ctl)] :=
  (((recoverFifo_did (s := enter .f6 (goto .f6 s)) rst a).call (s := goto .f6 s)).after_work rfl).then_work
    (failFinish_shared _)

/-- FINISH with an error, by the engine alone. -/
theorem finish_error_did (quiet : Quiet s) (some : s.ctl.error ≠ 0) (rst : s.ctl.rst = false) :
    Did 6 s (finish s) (dropFifosAndFrame { s.ctl with eof := false, error := 0, frst := true })
      ([.wr .eng .control (controlByte s.cfg.layout { s.ctl with frst := true }),
          .rd .eng .control (controlByte s.cfg.layout s.ctl), .wr .eng .error s.ctl.error] ++
        (errorEvents s.cfg.layout s.ctl.error ++ .rd .eng .error s.ctl.error :: eofEvents s.cfg.layout s.ctl.eof)) := by
  have read := (errorsRead_did quiet).then_work (u := goto .f3 (readErrors (clearEof (readEof s)))) rfl
  have e : (goto .f3 (readErrors (clearEof (readEof s)))).eng.e = s.ctl.error :=
    (readErrors_e _).trans (congrArg Controller.error (clearedEof_did quiet).ctl :)
  obtain ⟨classified, e'⟩ := classifyErrors_did (goto .f3 (readErrors (clearEof (readEof s))))
  rw [read.ctl, read.cfg, e] at classified
  have records := read.trans classified
  have clear := clearErrors_did (alone_of_quiet 1 (records.quiet quiet))
  have zero : s.ctl.error &&& ~~~s.ctl.error = 0 := byte_ext fun p => by simp
  rw [records.ctl, e', e, zero] at clear
  have cleared := records.trans clear
  have recover := finishFromF6_did (by rw [cleared.ctl]; exact rst) (alone_of_quiet 2 (cleared.quiet quiet))
  rw [cleared.ctl, cleared.cfg] at recover
  rw [finish, judge_error (s := readErrors (clearEof (readEof s))) fun zero => some (e.symm.trans zero)]
  exact cleared.trans recover

/-- FINISH returns `IoError` exactly on an error that it read. -/
theorem finish_res_error (some : (readErrors (clearEof (readEof s))).eng.e ≠ 0) : (finish s).eng.res = .err .ioError := by
  rw [finish, judge_error some]; rfl

/-- Settles O35: `finish_error_did`. -/
theorem finishWritesTheErrorBackVerbatim : Obligations.FinishWritesTheErrorBackVerbatim := by
  intro s idle quiet some rst
  have done := finish_error_did quiet some rst
  have res : (finish s).eng.res = .err .ioError := finish_res_error (by
    rw [readErrors_e, (clearedEof_did quiet).ctl]; exact some)
  have settled := responseSettled_of done.rsp done.draws
  have outside := done.outside quiet
  refine ⟨_, exec_finish idle, ?_⟩
  rw [endInternal_eq] at settled ⊢
  refine ⟨res, done.ctl, ?_, done.tocnt, done.bitrate, done.req, settled, rfl, outside, done.results⟩
  rw [done.history, errorEvents, eofEvents]
  simp only [List.append_assoc, List.cons_append, List.nil_append]
  rfl

/-! FINISH under any schedule. -/

/-- From `a` to `b` the history shows the list, newest first, through a projection. -/
def Shows {α : Type} (f : Event → Option α) (l : List α) (a b : State) : Prop :=
  b.history.filterMap f = l ++ a.history.filterMap f

/-- From `a` to `b` these values of `ERROR` were read and written, and these classes recorded. -/
structure ShowsErrors (read written : List Byte) (classes : List ErrorClass) (a b : State) : Prop where
  read : Shows errorRead read a b
  written : Shows errorWritten written a b
  classes : Shows loggedClass classes a b

section
variable {α : Type} {f : Event → Option α} {l m : List α} {a b c : State}

theorem Shows.trans (h : Shows f l a b) (k : Shows f m b c) : Shows f (m ++ l) a c := by
  unfold Shows at h k ⊢
  rw [k, h, List.append_assoc]

theorem Shows.none {Q : Event → Prop} (h : Grows Q a b) (none : ∀ x, Q x → f x = none) : Shows f [] a b := by
  obtain ⟨e, history, emits⟩ := h
  rw [Shows, history, List.filterMap_append, List.filterMap_eq_nil_iff.mpr fun x hx => none x (emits x hx)]

theorem Shows.one {x : Event} (h : b.history = x :: a.history) : Shows f (f x).toList a b := by
  rw [Shows, h, List.filterMap_cons]
  cases f x <;> rfl

/-- What the added events show. -/
theorem Shows.added {h : List Event} (k : Shows f l a b) (history : b.history = h ++ a.history) : h.filterMap f = l := by
  rw [Shows, history, List.filterMap_append] at k
  exact List.append_cancel_right k

variable {r w r' w' : List Byte} {k k' : List ErrorClass}

theorem ShowsErrors.trans (h : ShowsErrors r w k a b) (h' : ShowsErrors r' w' k' b c) :
    ShowsErrors (r' ++ r) (w' ++ w) (k' ++ k) a c :=
  ⟨h.read.trans h'.read, h.written.trans h'.written, h.classes.trans h'.classes⟩

/-- One event. -/
theorem ShowsErrors.one {x : Event} (h : b.history = x :: a.history) :
    ShowsErrors (errorRead x).toList (errorWritten x).toList (loggedClass x).toList a b :=
  ⟨.one h, .one h, .one h⟩

/-- A path without accesses of `ERROR` and without records. -/
theorem Path.showsErrors {K : List Kind} (h : Path K a b) (none : .read .error ∉ K ∧ .write .error ∉ K ∧ .log ∉ K) :
    ShowsErrors [] [] [] a b := by
  obtain ⟨read, write, log⟩ := none
  refine ⟨.none h.grows fun x emits => ?_, .none h.grows fun x emits => ?_, .none h.grows fun x emits => ?_⟩
  · cases x with
    | rd who q v =>
      cases who with
      | eng =>
        cases q with
        | error => exact absurd emits read
        | _ => rfl
      | _ => rfl
    | _ => rfl
  · cases x with
    | wr who q v =>
      cases who with
      | eng =>
        cases q with
        | error => exact absurd emits write
        | _ => rfl
      | _ => rfl
    | _ => rfl
  · cases x with
    | log y => exact absurd emits log
    | _ => rfl

end

theorem readErrors_shows (s : State) : ShowsErrors [s.ctl.error] [] [] s (readErrors s) :=
  (ShowsErrors.one (a := s) (b := latchE (regRead .eng .error (goto .f2 s))) (regRead_history _ _ _)).trans
    ((others_path (K := []) _).showsErrors (by decide))

theorem clearErrors_shows (s : State) : ShowsErrors [] [s.eng.e] [] s (clearErrors s) :=
  (ShowsErrors.one (a := s) (b := regWrite .eng .error s.eng.e (goto .f5 s)) (regWrite_history _ _ _ _)).trans
    ((others_path (K := []) _).showsErrors (by decide))

theorem classify_shows (field : Layout → Fin 8) (x : ErrorClass) (s : State) :
    ShowsErrors [] [] (if hasBit s.eng.e (field s.cfg.layout) then [x] else []) s (classify field x s) := by
  unfold classify; split
  · exact .one (b := logRecord (.errorClass x) s) rfl
  · exact (Path.refl (K := []) s).showsErrors (by decide)

theorem classify_cfg (field : Layout → Fin 8) (x : ErrorClass) (s : State) : (classify field x s).cfg = s.cfg :=
  (classify_path field x s).cfg

/-- F4 records the named bits in the order of R171. -/
theorem classifyErrors_shows (s : State) :
    ShowsErrors [] [] (errorClasses s.cfg.layout s.eng.e).reverse s (classifyErrors s) := by
  have rbor := classify_shows Layout.rbor .rbor (goto .f4 s)
  have wbur := classify_shows Layout.wbur .wbur (classify Layout.rbor .rbor (goto .f4 s))
  have berr := classify_shows Layout.berr .berr (classify Layout.wbur .wbur (classify Layout.rbor .rbor (goto .f4 s)))
  rw [classify_eng, classify_cfg] at wbur
  rw [classify_eng, classify_eng, classify_cfg, classify_cfg] at berr
  have all := (rbor.trans wbur).trans berr
  have order : (errorClasses s.cfg.layout s.eng.e).reverse =
      (if hasBit s.eng.e s.cfg.layout.berr then [ErrorClass.berr] else []) ++
        ((if hasBit s.eng.e s.cfg.layout.wbur then [ErrorClass.wbur] else []) ++
          if hasBit s.eng.e s.cfg.layout.rbor then [ErrorClass.rbor] else []) := by
    simp only [errorClasses, hasBit, List.reverse_append, apply_ite List.reverse, List.reverse_singleton, List.reverse_nil]
    rfl
  rw [order]
  exact ⟨all.read, all.written, all.classes⟩

/-- F3 to F7 by the value read. -/
theorem judge_shows (s : State) :
    ShowsErrors [] (if s.eng.e = 0 then [] else [s.eng.e]) (errorClasses s.cfg.layout s.eng.e).reverse s (judge s) := by
  by_cases zero : s.eng.e = 0
  · have classes : errorClasses s.cfg.layout 0 = [] := by simp [errorClasses]
    rw [judge_ok zero, if_pos zero, zero, classes]
    exact (Path.edit s (returnOk (goto .f3 s)) rfl : Path [] _ _).showsErrors (by decide)
  · rw [judge_error zero, if_neg zero]
    have records := classifyErrors_shows (goto .f3 s)
    have clear := clearErrors_shows (classifyErrors (goto .f3 s))
    rw [(classifyErrors_did (goto .f3 s)).2] at clear
    have recover := (finishFromF6_path (clearErrors (classifyErrors (goto .f3 s)))).showsErrors (by decide)
    have all := (records.trans clear).trans recover
    exact ⟨all.read, all.written, all.classes⟩

/-- An event that is no write of `STATUS1` by the engine but one of the mask of `EOF`. -/
def MasksEof (l : Layout) (x : Event) : Prop := ∀ v, x = .wr .eng .status1 v → v = bit l.eof

theorem Path.masksEof {K : List Kind} {a b : State} (h : Path K a b) (none : .write .status1 ∉ K) (l : Layout) :
    Grows (MasksEof l) a b :=
  h.grows.mono fun _ emits v e => absurd (e ▸ emits : Emits K (.wr .eng .status1 v)) none

theorem clearEof_masksEof (s : State) : Grows (MasksEof s.cfg.layout) s (clearEof s) := by
  unfold clearEof; split
  · have written : Grows (MasksEof s.cfg.layout) s (regWrite .eng .status1 (bit s.cfg.layout.eof) (goto .f1 s)) :=
      .one (regWrite_history _ _ _ _) fun v e => by cases e; rfl
    exact written.trans ((others_path (K := []) _).masksEof (by decide) _)
  · exact .of_same rfl

/-- `STATUS1` is written with its mask alone (R75). -/
theorem finish_masksEof (s : State) : Grows (MasksEof s.cfg.layout) s (finish s) := by
  have clear := clearEof_masksEof (readEof s)
  rw [(readEof_path s).cfg] at clear
  have read := (readEof_path s).masksEof (by decide) s.cfg.layout
  have errors := (readErrors_path (clearEof (readEof s))).masksEof (by decide) s.cfg.layout
  exact ((read.trans clear).trans errors).trans ((judge_path _).masksEof (by decide) s.cfg.layout)

/-- FINISH with an error: `FRST` set, both FIFOs empty, `PD`, `RST` and the bit timing as they were. -/
theorem finishFromF4_spec (s : State) :
    (finishFromF4 s).ctl.frst = true ∧ Blank False (finishFromF4 s) ∧ SamePower s (finishFromF4 s) := by
  obtain ⟨frst, blank, same⟩ := recoverFifo_spec (enter .f6 (goto .f6 (clearErrors (classifyErrors s))))
  have classified := (classifyErrors_path s).samePower (by decide)
  have cleared := (clearErrors_path (classifyErrors s)).samePower (by decide)
  exact ⟨frst, { blank with }, (classified.trans cleared).trans ⟨same.pd, same.rst, same.timing⟩⟩

/-- The value of `ERROR` that FINISH reads. -/
def finishError (s : State) : Byte := (clearEof (readEof s)).ctl.error

/-- F0 to F2 as one path. -/
theorem errorsRead_path (s : State) :
    Path [.read .status1, .write .status1, .read .error] s (readErrors (clearEof (readEof s))) :=
  ((eofCleared_path s).mono (by decide)).trans ((readErrors_path _).mono (by decide))

/-- What FINISH shows of `ERROR` and its records. -/
theorem finish_shows (s : State) :
    ShowsErrors [finishError s] (if finishError s = 0 then [] else [finishError s])
      (errorClasses s.cfg.layout (finishError s)).reverse s (finish s) := by
  have judged := judge_shows (readErrors (clearEof (readEof s)))
  rw [readErrors_e, (errorsRead_path s).cfg] at judged
  have all := (((eofCleared_path s).showsErrors (by decide)).trans (readErrors_shows _)).trans judged
  simp only [List.append_nil, List.nil_append] at all
  exact all

/-- FINISH by the error it read. -/
theorem finish_outcome (s : State) :
    (finishError s = 0 → (finish s).eng.res = .ok ∧ (finish s).ctl.frst = s.ctl.frst) ∧
    (finishError s ≠ 0 → (finish s).eng.res = .err .ioError ∧ (finish s).ctl.frst = true ∧ (finish s).ctl.wfifo = [] ∧
      (finish s).ctl.rfifo = []) ∧ SamePower s (finish s) := by
  have path := errorsRead_path s
  have before := path.samePower (by decide)
  have e : (readErrors (clearEof (readEof s))).eng.e = finishError s := readErrors_e _
  by_cases zero : finishError s = 0
  · rw [finish, judge_ok (e.trans zero)]
    exact ⟨fun _ => ⟨rfl, (path.kept.power (by decide)).2.2⟩, fun h => absurd zero h, ⟨before.pd, before.rst, before.timing⟩⟩
  · rw [finish, judge_error fun h => zero (e.symm.trans h)]
    obtain ⟨frst, blank, same⟩ := finishFromF4_spec (goto .f3 (readErrors (clearEof (readEof s))))
    exact ⟨fun h => absurd h zero, fun _ => ⟨rfl, frst, blank.wfifo, blank.rfifo⟩,
      before.trans ⟨same.pd, same.rst, same.timing⟩⟩

/-- Settles O36: what `finish_shows`, `finish_masksEof` and `finish_outcome` say of the events and of the outcome. -/
theorem finishNeverEscalates : Obligations.FinishNeverEscalates := by
  intro s idle
  have path := finish_path s
  have kept := path.kept
  obtain ⟨h, history, -⟩ := path.grows
  have shown := finish_shows s
  obtain ⟨h', history', masks⟩ := finish_masksEof s
  obtain rfl : h' = h := List.append_cancel_right (history'.symm.trans history)
  obtain ⟨ok, error, same⟩ := finish_outcome s
  refine ⟨_, h', finishError s, exec_finish idle, ?_⟩
  rw [endInternal_eq]
  refine ⟨history, shown.read.added history, shown.written.added history, ?_, fun v mem => masks _ mem v rfl,
    kept.tocnt (by decide), kept.bitrate (by decide), kept.req (by decide), fun res => (if_pos res).trans (kept.rsp (by decide)),
    rfl, path.cfg, same.pd, same.rst, same.timing, ok, error⟩
  rw [List.filterMap_reverse, shown.classes.added history, List.reverse_reverse]

end Sys2Proof.Machine
end

section
/-! PROOF. WRITE under any schedule (43_writer.md R125 to R133): the four ways it ends, what each keeps, and the recovery after a timeout. -/

namespace Sys2Proof.Machine

variable {s : State}

/-! The phases. -/

/-- W1 shows whether the write FIFO is full at the read. -/
theorem shows_checkRoom (s : State) : shows Layout.wff (checkRoom s) = wffFlag s := by
  rw [shows, checkRoom, loadStatus_eng, loadStatus_cfg]
  exact hasBit_status2Byte_wff (goto .w1 s)

/-- W2 to W4. -/
def pushed (s : State) : State := pushBody (pushHeader (clearPendingReset (checkRoom s)))

/-- Up to the idle check of W5. -/
def checked (s : State) : State := checkIdle (pushed s)

/-- Up to the completion wait of W7. -/
def awaited (s : State) : State := awaitCompletion (trigger (checked s))

theorem write_full (full : wffFlag s = true) : write s = .next (raiseErr .fifoFull (checkRoom s)) :=
  if_pos ((shows_checkRoom s).trans full)

theorem write_room (room : wffFlag s = false) : write s = transmit (checked s) :=
  if_neg (by rw [shows_checkRoom, room]; decide)

theorem transmit_idle (ok : s.eng.res = .ok) : transmit s = concludeWrite (awaitCompletion (trigger s)) :=
  if_pos ((returnedOk_iff s).mpr ok)

theorem transmit_busy (busy : s.eng.res = .err .busBusy) : transmit s = .next s :=
  if_neg (by rw [returnedOk_iff, busy]; decide)

theorem concludeWrite_ok (ok : s.eng.res = .ok) : concludeWrite s = .next (returnOk (clearTimeouts s)) :=
  if_pos ((returnedOk_iff s).mpr ok)

theorem concludeWrite_timeout (late : s.eng.res = .err .timeout) : concludeWrite s = timedOut s :=
  if_neg (by rw [returnedOk_iff, late]; decide)

theorem checkIdle_res (s : State) : (checkIdle s).eng.res = .ok ∨ (checkIdle s).eng.res = .err .busBusy := waitIdle_res _

theorem waitComplete_res (len : Byte) (s : State) :
    (waitComplete len s).eng.res = .ok ∨ (waitComplete len s).eng.res = .err .timeout := by
  unfold waitComplete; split
  · exact waitPoll_res s
  · exact waitEvent_res len s

theorem awaitCompletion_res (s : State) :
    (awaitCompletion s).eng.res = .ok ∨ (awaitCompletion s).eng.res = .err .timeout := waitComplete_res _ _

/-- The four ways WRITE ends (R126, R130, R132). -/
theorem write_ends (s : State) :
    (wffFlag s = true ∧ write s = .next (raiseErr .fifoFull (checkRoom s))) ∨
    ((checked s).eng.res = .err .busBusy ∧ write s = .next (checked s)) ∨
    ((awaited s).eng.res = .ok ∧ write s = .next (returnOk (clearTimeouts (awaited s)))) ∨
    ((awaited s).eng.res = .err .timeout ∧ write s = timedOut (awaited s)) := by
  cases room : wffFlag s with
  | true => exact .inl ⟨rfl, write_full room⟩
  | false =>
    rcases checkIdle_res (pushed s) with idle | busy
    · have sent : write s = concludeWrite (awaited s) := (write_room room).trans (transmit_idle idle)
      rcases awaitCompletion_res (trigger (checked s)) with ok | late
      · exact .inr (.inr (.inl ⟨ok, sent.trans (concludeWrite_ok ok)⟩))
      · exact .inr (.inr (.inr ⟨late, sent.trans (concludeWrite_timeout late)⟩))
    · exact .inr (.inl ⟨busy, (write_room room).trans (transmit_busy busy)⟩)

/-! What the phases keep. -/

/-- Everything WRITE does before the count. -/
def sendKinds : List Kind :=
  [.read .status1, .read .status2, .read .control, .write .control, .write .wrData, .delay, .take]

theorem pushed_path (s : State) : Path pushKinds s (pushed s) :=
  (((checkRoom_path s).mono (by decide)).trans ((clearPendingReset_path _).mono (by decide))).trans
    (((pushHeader_path _).trans (pushBody_path _)).mono (by decide))

theorem checked_path (s : State) : Path sendKinds s (checked s) :=
  ((pushed_path s).mono (by decide)).trans ((checkIdle_path _).mono (by decide))

theorem awaited_path (s : State) : Path sendKinds s (awaited s) :=
  ((checked_path s).trans ((trigger_path _).mono (by decide))).trans ((awaitCompletion_path _).mono (by decide))

theorem pushed_samePower (s : State) : SamePower s (pushed s) := by
  have clear := clearControl_samePower (field := Layout.frst) (fun l => l.frst_ne_pd) (fun l => l.frst_ne_rst)
    (goto .w2 (checkRoom s))
  have clear' : SamePower (checkRoom s) (clearPendingReset (checkRoom s)) := ⟨clear.pd, clear.rst, clear.timing⟩
  have body : Path payloadKinds (clearPendingReset (checkRoom s)) (pushed s) := (pushHeader_path _).trans (pushBody_path _)
  exact (((checkRoom_path s).samePower (by decide)).trans clear').trans (body.samePower (by decide))

theorem trigger_samePower (s : State) : SamePower s (trigger s) := by
  have set := setControl_samePower (field := Layout.txen) (fun l => l.txen_ne_pd) (fun l => l.txen_ne_rst) (goto .w6 s)
  have delay : Path [.delay] (setControl Layout.txen (goto .w6 s)) (trigger s) := delayUs_path (by decide) _ _
  exact (⟨set.pd, set.rst, set.timing⟩ : SamePower s _).trans (delay.samePower (by decide))

/-- `PD`, `RST` and the bit timing up to the completion wait. -/
theorem awaited_samePower (s : State) : SamePower s (awaited s) :=
  (((pushed_samePower s).trans ((checkIdle_path _).samePower (by decide))).trans (trigger_samePower _)).trans
    ((awaitCompletion_path _).samePower (by decide))

/-! After a timeout. -/

/-- The state in which the recovery after a timeout begins: the count is incremented. -/
def countedOut (s : State) : State := enter .w7Recover (countTimeout s)

theorem countedOut_eng (s : State) :
    (countedOut s).eng.tocnt = s.eng.tocnt + 1 ∧ (countedOut s).eng.bitrate = s.eng.bitrate ∧ (countedOut s).cfg = s.cfg := by
  simp [countedOut, countTimeout, enter]

theorem countedOut_samePower (s : State) : SamePower s (countedOut s) := by
  have path : Path [.count] s (countTimeout s) := setTimeouts_path (by decide) _ s
  have same := path.samePower (by decide)
  exact ⟨same.pd, same.rst, same.timing⟩

/-- At most the threshold: the FIFO-only recovery (R133). -/
theorem timedOut_fifo (few : ¬ s.cfg.timeoutThreshold < (s.eng.tocnt + 1).toNat) :
    timedOut s = .next (raiseErr .timeout (leave .w7Recover (recoverFifo (countedOut s)))) := by
  obtain ⟨count, -, cfg⟩ := countedOut_eng s
  have fifo : escalates (countTimeout s).cfg (countTimeout s).eng.tocnt = false := by
    rw [← Bool.not_eq_true, escalates_iff]
    exact fun many => few (cfg ▸ count ▸ many)
  rw [timedOut, recoverFromTimeout, fifo]; rfl

/-- Above the threshold: the full reset (R133). -/
theorem timedOut_full (many : s.cfg.timeoutThreshold < (s.eng.tocnt + 1).toNat) :
    timedOut s = andThen (recoverFull false (countedOut s)) fun t => .next (raiseErr .timeout (leave .w7Recover t)) := by
  obtain ⟨count, -, cfg⟩ := countedOut_eng s
  have full : escalates (countTimeout s).cfg (countTimeout s).eng.tocnt = true := by
    rw [escalates_iff]
    exact (cfg.symm ▸ count.symm ▸ many)
  rw [timedOut, recoverFromTimeout, full]
  change andThen (andThen (recoverFull false (countedOut s)) _) _ = _
  cases recoverFull false (countedOut s) <;> rfl

/-- What a timeout leaves. -/
structure TimedOut (s t : State) : Prop where
  res : t.eng.res = .err .timeout
  tocnt : t.eng.tocnt = s.eng.tocnt + 1
  bitrate : t.eng.bitrate = s.eng.bitrate
  few : ¬ s.cfg.timeoutThreshold < (s.eng.tocnt + 1).toNat → t.ctl.frst = true ∧ Blank False t ∧ SamePower s t
  many : s.cfg.timeoutThreshold < (s.eng.tocnt + 1).toNat → ∃ u, FullReset (countedOut s) u ∧ t.ctl = u.ctl

theorem timedOut_next {t : State} (h : timedOut s = .next t) : TimedOut s t := by
  obtain ⟨count, bitrate, -⟩ := countedOut_eng s
  by_cases many : s.cfg.timeoutThreshold < (s.eng.tocnt + 1).toNat
  · rw [timedOut_full many] at h
    obtain ⟨u, run, ended⟩ := andThen_next h
    cases ended
    have full := recoverFull_spec run
    have kept := (recoverFull_leads _ _ u run).kept
    exact ⟨rfl, (kept.tocnt (by decide)).trans count, full.bitrate.trans bitrate, fun few => absurd many few,
      fun _ => ⟨u, full, rfl⟩⟩
  · rw [timedOut_fifo many] at h
    cases h
    obtain ⟨frst, blank, same⟩ := recoverFifo_spec (countedOut s)
    have kept := (recoverFifo_path (countedOut s)).kept
    have all := (countedOut_samePower s).trans same
    exact ⟨rfl, (kept.tocnt (by decide)).trans count, (kept.bitrate (by decide)).trans bitrate,
      fun _ => ⟨frst, { blank with }, ⟨all.pd, all.rst, all.timing⟩⟩, fun h => absurd h many⟩

/-- A timeout is survived with an admitted bitrate, or below the threshold. -/
theorem timedOut_ends (h : validBitrate s.cfg s.eng.bitrate = true ∨ ¬ s.cfg.timeoutThreshold < (s.eng.tocnt + 1).toNat) :
    ∃ t, timedOut s = .next t := by
  by_cases many : s.cfg.timeoutThreshold < (s.eng.tocnt + 1).toNat
  · obtain ⟨-, bitrate, cfg⟩ := countedOut_eng s
    obtain ⟨t, run⟩ := recoverFull_ends false (s := countedOut s) (by
      rw [cfg, bitrate]; exact h.resolve_right fun few => few many)
    rw [timedOut_full many, run]
    exact ⟨_, rfl⟩
  · exact ⟨_, timedOut_fifo many⟩

/-! How WRITE ends. -/

/-- The law of `tocnt` and the record after WRITE (R12, R132). -/
theorem write_outcome {t : State} (h : write s = .next t) :
    ((t.eng.res = .ok ∧ t.eng.tocnt = 0) ∨ (t.eng.res = .err .timeout ∧ t.eng.tocnt = s.eng.tocnt + 1) ∨
      ((t.eng.res = .err .fifoFull ∨ t.eng.res = .err .busBusy) ∧ t.eng.tocnt = s.eng.tocnt)) ∧
    t.eng.bitrate = s.eng.bitrate := by
  have before := (awaited_path s).kept
  rcases write_ends s with ⟨-, run⟩ | ⟨busy, run⟩ | ⟨-, run⟩ | ⟨-, run⟩
  · rw [run] at h; cases h
    have kept := (checkRoom_path s).kept
    exact ⟨.inr (.inr ⟨.inl rfl, kept.tocnt (by decide)⟩), kept.bitrate (by decide)⟩
  · rw [run] at h; cases h
    have kept := (checked_path s).kept
    exact ⟨.inr (.inr ⟨.inr busy, kept.tocnt (by decide)⟩), kept.bitrate (by decide)⟩
  · rw [run] at h; cases h
    refine ⟨.inl ⟨rfl, ?_⟩, ?_⟩
    · simp [clearTimeouts]
    · exact Eq.trans (by simp [clearTimeouts]) (before.bitrate (by decide))
  · rw [run] at h
    have late := timedOut_next h
    exact ⟨.inr (.inl ⟨late.res, late.tocnt.trans (by rw [before.tocnt (by decide)])⟩),
      late.bitrate.trans (before.bitrate (by decide))⟩

/-- WRITE ends when a full reset would have a bitrate, or none is due. -/
theorem write_terminates (h : AdmittedBitrate s.cfg s.eng.bitrate ∨ (s.eng.tocnt + 1).toNat ≤ s.cfg.timeoutThreshold) :
    ∃ t, write s = .next t := by
  rcases write_ends s with ⟨-, run⟩ | ⟨-, run⟩ | ⟨-, run⟩ | ⟨-, run⟩
  · exact ⟨_, run⟩
  · exact ⟨_, run⟩
  · exact ⟨_, run⟩
  · have path := awaited_path s
    have kept := path.kept
    rw [run]
    refine timedOut_ends ?_
    rw [path.cfg, kept.bitrate (by decide), kept.tocnt (by decide), validBitrate_iff]
    exact h.imp id Nat.not_lt.mpr

theorem exec_write (idle : s.eng.phase = .idle) {t : State} (h : write s = .next t) :
    exec .write s = .next (toIdle (settleResponse t)) := by
  refine (runOperation_idle (f := write) idle).trans ?_
  rw [h]; rfl

theorem exec_write_next {t : State} (h : exec .write s = .next t) :
    ∃ u, write s = .next u ∧ t = toIdle (settleResponse u) := by
  obtain ⟨-, u, run, ended⟩ := runOperation_next (f := write) h
  exact ⟨u, run, ended⟩

/-- Settles O29: the recovery that `timedOut_next` describes, after the phases that keep power, reset and timing. -/
theorem timeoutEscalatesToFullReset : Obligations.TimeoutEscalatesToFullReset := by
  intro s t idle run late
  obtain ⟨u, written, rfl⟩ := exec_write_next run
  rw [endInternal_res] at late
  have ctl : (toIdle (settleResponse u)).ctl = u.ctl := by rw [endInternal_eq]
  rw [ctl]
  have path := awaited_path s
  have kept := path.kept
  have out : TimedOut (awaited s) u := by
    rcases write_ends s with ⟨-, h⟩ | ⟨busy, h⟩ | ⟨-, h⟩ | ⟨-, h⟩
    · rw [h] at written; cases written; cases late
    · rw [h] at written; cases written; rw [busy] at late; cases late
    · rw [h] at written; cases written; cases late
    · exact timedOut_next (h ▸ written)
  obtain ⟨-, -, -, few, many⟩ := out
  rw [path.cfg, kept.tocnt (by decide)] at few many
  refine ⟨fun h => ?_, fun h => ?_⟩
  · obtain ⟨frst, blank, same⟩ := few (Nat.not_lt.mpr h)
    have all := (awaited_samePower s).trans same
    exact ⟨frst, blank.wfifo, blank.rfifo, blank.txen, blank.frame, all.pd, all.rst, all.timing⟩
  · obtain ⟨v, full, eq⟩ := many h
    obtain ⟨-, bitrate, cfg⟩ := countedOut_eng (awaited s)
    obtain ⟨pd, rst, frst, blank, low, high, -, -⟩ := full
    rw [cfg, path.cfg] at blank low high
    rw [bitrate, kept.bitrate (by decide)] at low high
    rw [eq]
    exact ⟨pd, rst, frst, blank.txen, blank.wfifo, blank.rfifo, blank.status, low, high⟩

/-! Who writes the record. -/

/-- Which operations may write each part of the engine's record. -/
theorem kindsOf_writers {i : Instr} (engine : isRegister i = false) :
    (.count ∈ kindsOf i → i = .write ∨ ∃ r, i = .transfer r) ∧ (.mask ∈ kindsOf i → i = .enable ∨ i = .disable) ∧
    (.request ∈ kindsOf i → ∃ r, i = .transfer r) ∧
    (.bitrate ∈ kindsOf i → (∃ br, i = .configure br) ∨ i = .write ∨ (∃ r, i = .transfer r) ∨ i = .recoverFull) ∧
    .write .intEn1 ∉ kindsOf i ∧ .write .intEn2 ∉ kindsOf i := by
  have not {p q : Prop} (h : ¬ p) : p → q := fun k => absurd k h
  cases i with
  | configure br =>
    have none : .count ∉ configureKinds ∧ .mask ∉ configureKinds ∧ .request ∉ configureKinds ∧
        .write .intEn1 ∉ configureKinds ∧ .write .intEn2 ∉ configureKinds := by decide
    obtain ⟨count, mask, request, one, two⟩ := none
    exact ⟨not count, not mask, not request, fun _ => .inl ⟨br, rfl⟩, one, two⟩
  | transfer r =>
    have none : .mask ∉ .request :: transferKinds ∧ .write .intEn1 ∉ .request :: transferKinds ∧
        .write .intEn2 ∉ .request :: transferKinds := by decide
    obtain ⟨mask, one, two⟩ := none
    exact ⟨fun _ => .inr ⟨r, rfl⟩, not mask, fun _ => ⟨r, rfl⟩, fun _ => .inr (.inr (.inl ⟨r, rfl⟩)), one, two⟩
  | wrControl | wrStatus1 | wrStatus2 | wrError | wrWrData | wrRdData | wrBtLow | wrBtHigh | wrIntEn1 | wrIntEn2 =>
    cases engine
  | enable => exact ⟨not (by decide), fun _ => .inl rfl, not (by decide), not (by decide), by decide, by decide⟩
  | disable => exact ⟨not (by decide), fun _ => .inr rfl, not (by decide), not (by decide), by decide, by decide⟩
  | write => exact ⟨fun _ => .inl rfl, not (by decide), not (by decide), fun _ => .inr (.inl rfl), by decide, by decide⟩
  | recoverFull =>
    exact ⟨not (by decide), not (by decide), not (by decide), fun _ => .inr (.inr (.inr rfl)), by decide, by decide⟩
  | _ => exact ⟨not (by decide), not (by decide), not (by decide), not (by decide), by decide, by decide⟩

/-- CONFIGURE stores its operand. -/
theorem exec_configure_bitrate {br : Word} {s t : State} (h : exec (.configure br) s = .next t) : t.eng.bitrate = br := by
  obtain ⟨-, u, run, rfl⟩ := runOperation_next (f := configure br) h
  rw [(endOperation_path _ u).kept.bitrate (by decide), configure_next run]
  exact (configureFromC1_eng _).1

/-- The bitrate of the record survives WRITE and a full reset. -/
theorem exec_recoverFull_bitrate {s t : State} (h : exec .recoverFull s = .next t) : t.eng.bitrate = s.eng.bitrate := by
  obtain ⟨-, u, run, rfl⟩ := runOperation_next (f := fun a => recoverFull a.inIsr a) h
  rw [(endOperation_path _ u).kept.bitrate (by decide), (recoverFull_spec run).bitrate]

theorem exec_write_bitrate {s t : State} (h : exec .write s = .next t) : t.eng.bitrate = s.eng.bitrate := by
  obtain ⟨u, run, rfl⟩ := exec_write_next h
  rw [endInternal_eq]
  exact (write_outcome run).2

/-- TRANSFER is T0, T1, WRITE and the phases after it. -/
theorem transfer_parts {r : Request} {s t : State} (h : transfer r s = .next t) :
    ∃ u, write (enter .t2 (goto .t2 (latchRequest r (goto .t0 s)))) = .next u ∧ t = afterWrite (leave .t2 u) := by
  unfold transfer at h; split at h
  · obtain ⟨v, called, ended⟩ := andThen_next h
    obtain ⟨u, run, rfl⟩ := callOrStop_next called
    exact ⟨u, run, by cases ended; rfl⟩
  · cases h

theorem exec_transfer_record {r : Request} {s t : State} (h : exec (.transfer r) s = .next t) :
    t.eng.bitrate = s.eng.bitrate ∧ t.eng.req = r := by
  obtain ⟨-, v, run, rfl⟩ := runOperation_next (f := transfer r) h
  obtain ⟨u, written, rfl⟩ := transfer_parts run
  have ended := (endOperation_path .transfer (afterWrite (leave .t2 u))).kept
  have later := (afterWrite_path (leave .t2 u)).kept
  have req := (write_leads _ u written).kept.req (by decide)
  rw [ended.bitrate (by decide), later.bitrate (by decide), ended.req (by decide), later.req (by decide)]
  exact ⟨(write_outcome written).2, req⟩

/-- The enables are written by their own operations alone. -/
theorem exec_register_enables {i : Instr} (reg : isRegister i = true) {s t : State} (h : exec i s = .next t) :
    (t.ctl.intEn1 = s.ctl.intEn1 ∨ i = .wrIntEn1 t.ctl.intEn1) ∧
    (t.ctl.intEn2 = s.ctl.intEn2 ∨ i = .wrIntEn2 t.ctl.intEn2) := by
  obtain ⟨r, rfl⟩ | ⟨r, v, rfl⟩ := eq_access_of_isRegister reg
  · cases (exec_readInstr r s).symm.trans h
    rw [regRead_ctl]
    split <;> exact ⟨.inl rfl, .inl rfl⟩
  · cases (exec_writeInstr r v s).symm.trans h
    rw [regWrite_ctl]
    by_cases first : r = .intEn1
    · subst first; exact ⟨.inr rfl, .inl rfl⟩
    by_cases second : r = .intEn2
    · subst second; exact ⟨.inl rfl, .inr rfl⟩
    obtain ⟨one, two⟩ := writeReg_intEn r v s first second
    exact ⟨.inl one, .inl two⟩

/-- Settles O45: the kinds of each operation, and the three operations that store a bitrate or a request. -/
theorem writersOfTheRecord : Obligations.WritersOfTheRecord := by
  intro i s t h
  cases reg : isRegister i with
  | true =>
    obtain ⟨-, eng, cfg, mask⟩ := exec_register_next reg h
    obtain ⟨one, two⟩ := exec_register_enables reg h
    rw [eng]
    exact ⟨cfg, .inl rfl, .inl rfl, one, two, .inl mask, .inl rfl⟩
  | false =>
    have path := exec_leads reg s t h
    have kept := path.kept
    obtain ⟨count, mask, request, bitrate, one, two⟩ := kindsOf_writers reg
    have absent {k : Kind} (mem : k ∉ kindsOf i) (ends : k ∉ endKinds) : k ∉ kindsOf i ++ endKinds := fun h =>
      (List.mem_append.mp h).elim mem ends
    refine ⟨path.cfg, ?_, ?_, .inl (kept.intEn1 (absent one (by decide))), .inl (kept.intEn2 (absent two (by decide))), ?_, ?_⟩
    · by_cases mem : .bitrate ∈ kindsOf i
      · rcases bitrate mem with ⟨br, rfl⟩ | rfl | ⟨r, rfl⟩ | rfl
        · exact .inr (by rw [exec_configure_bitrate h])
        · exact .inl (exec_write_bitrate h)
        · exact .inl (exec_transfer_record h).1
        · exact .inl (exec_recoverFull_bitrate h)
      · exact .inl (kept.bitrate (absent mem (by decide)))
    · by_cases mem : .count ∈ kindsOf i
      · exact .inr (count mem)
      · exact .inl (kept.tocnt (absent mem (by decide)))
    · by_cases mem : .mask ∈ kindsOf i
      · exact .inr (mask mem)
      · exact .inl (kept.irqMask (absent mem (by decide)))
    · by_cases mem : .request ∈ kindsOf i
      · obtain ⟨r, rfl⟩ := request mem
        exact .inr (by rw [(exec_transfer_record h).2])
      · exact .inl (kept.req (absent mem (by decide)))

end Sys2Proof.Machine
end

section
/-! PROOF. WRITE with a full write FIFO (43_writer.md R126), by itself and inside TRANSFER, and the law of `tocnt` (R132). -/

namespace Sys2Proof.Machine

variable {s : State}

/-- A status read is the engine's one access. -/
theorem loadStatus_accesses (r : Reg) (s : State) : ∃ h, (loadStatus r s).history = h ++ s.history ∧
    h.filter isEngineAccess = [.rd .eng r (readReg r s).1] := by
  obtain ⟨h, history, emits⟩ := others_grows (latchS (regRead .eng r s))
  have none : h.filter isEngineAccess = [] := List.filter_eq_nil_iff.mpr fun x mem =>
    Bool.not_eq_true _ ▸ (emits x mem).noAccess (fun _ => List.not_mem_nil) fun _ => List.not_mem_nil
  refine ⟨h ++ [.rd .eng r (readReg r s).1], ?_, ?_⟩
  · rw [loadStatus, history, latchS_history, regRead_history, List.append_assoc]; rfl
  · rw [List.filter_append, none]; rfl

theorem checkRoom_did (a : Alone 1 s) : Did 1 s (checkRoom s) s.ctl [.rd .eng .status2 (status2Byte s)] :=
  (loadStatus_did (r := .status2) (s := goto .w1 s) rfl a).after_work rfl

/-- W1 with a full FIFO: what is common to WRITE and to TRANSFER. -/
theorem checkRoom_only (s : State) : ∃ h, (checkRoom s).history = h ++ s.history ∧
    (∃ v, h.filter isEngineAccess = [Event.rd .eng .status2 v]) ∧
    (Quiet s → (checkRoom s).ctl = s.ctl ∧ h = [.rd .eng .status2 (status2Byte s)]) := by
  obtain ⟨h, history, access⟩ := loadStatus_accesses .status2 (goto .w1 s)
  refine ⟨h, history, ⟨_, access⟩, fun quiet => ?_⟩
  have done := checkRoom_did (alone_of_quiet 1 quiet)
  exact ⟨done.ctl, List.append_cancel_right (history.symm.trans done.history)⟩

/-! TRANSFER up to WRITE. -/

/-- T0 and T1, and the call of WRITE. -/
def started (r : Request) (s : State) : State := enter .t2 (goto .t2 (latchRequest r (goto .t0 s)))

/-- TRANSFER of a well-formed request is what follows its WRITE. -/
theorem exec_transfer {r : Request} {u : State} (idle : s.eng.phase = .idle) (formed : WellFormedRequest s.cfg r)
    (h : write (started r s) = .next u) :
    exec (.transfer r) s = .next (endOperation .transfer (afterWrite (leave .t2 u))) := by
  refine (runOperation_idle (f := transfer r) idle).trans ?_
  rw [transfer, if_pos ((requestOk_iff _ _).mpr formed), transferFromT2]
  change andThen (andThen (andThen (write (started r s)) _) _) _ = _
  rw [h]; rfl

/-- A failed WRITE ends TRANSFER. -/
theorem afterWrite_failed {k : ErrKind} (failed : s.eng.res = .err k) : afterWrite s = s :=
  if_neg (by rw [returnedOk_iff, failed]; exact Result.noConfusion)

/-- The end of a TRANSFER that failed: the code alone. -/
theorem endTransfer_failed {k : ErrKind} (failed : s.eng.res = .err k) :
    endOperation .transfer s = { s with
      eng := { s.eng with rsp := Config.freeResponse s.draws, phase := .idle }
      draws := s.draws + 1, results := s.results ++ [resultCode s.cfg (.err k)] } := by
  have bad : ¬ returnedOk s = true := by rw [returnedOk_iff, failed]; exact Result.noConfusion
  rw [endOperation, endPublic_eq, transferResult, if_neg bad, codeOf, failed]; rfl

/-- Settles O25: W1 is one read, and its error ends WRITE and TRANSFER. -/
theorem fifoFullWritesNothing : Obligations.FifoFullWritesNothing := by
  refine ⟨fun s idle full => ?_, fun r s idle formed full => ?_⟩
  · obtain ⟨h, history, access, quiet⟩ := checkRoom_only s
    have kept := (checkRoom_path s).kept
    obtain ⟨pd, rst, frst⟩ := kept.power (by decide)
    have settled := responseSettled_of (s := s) (u := raiseErr .fifoFull (checkRoom s)) (kept.rsp (by decide)) (kept.draws (by decide))
    refine ⟨_, h, exec_write idle (write_full ((wffFlag_iff s).mpr full)), ?_⟩
    rw [endInternal_eq] at settled ⊢
    exact ⟨history, rfl, kept.tocnt (by decide), settled, access, pd, rst, frst, quiet⟩
  · obtain ⟨h, history, access, quiet⟩ := checkRoom_only (started r s)
    have kept := (checkRoom_path (started r s)).kept
    have run := exec_transfer idle formed (write_full ((wffFlag_iff (started r s)).mpr full))
    rw [afterWrite_failed (k := .fifoFull) rfl, endTransfer_failed (k := .fifoFull) rfl] at run
    have draws : (checkRoom (started r s)).draws = s.draws := kept.draws (by decide)
    refine ⟨_, h, run, history, rfl, ?_, kept.tocnt (by decide), congrArg Config.freeResponse draws, access, quiet⟩
    change (checkRoom (started r s)).results ++ [resultCode (checkRoom (started r s)).cfg (.err .fifoFull)] = _
    rw [kept.results (by decide), (checkRoom_path (started r s)).cfg]; rfl

/-! A quiet WRITE that times out. -/

/-- With nobody else to move the wire and the signal stay, and nothing raises `EOF`. -/
structure Calm (a b : State) : Prop where
  quiet : Quiet b
  busIdle : b.busIdle = a.busIdle
  sig : b.sig = a.sig
  eof : a.ctl.eof = false → b.ctl.eof = false

theorem Calm.trans {a b c : State} (h : Calm a b) (k : Calm b c) : Calm a c :=
  ⟨k.quiet, k.busIdle.trans h.busIdle, k.sig.trans h.sig, fun e => k.eof (h.eof e)⟩

theorem Calm.after_work {a b c : State} (h : Calm b c) (same : shared b = shared a) : Calm a c :=
  ⟨h.quiet, h.busIdle.trans (congrArg State.busIdle same :), h.sig.trans (congrArg State.sig same :),
    fun e => h.eof ((congrArg (fun u => u.ctl.eof) same).trans e :)⟩

theorem Did.calm {n : Nat} {t : State} {h : List Event} (d : Did n s t s.ctl h) (quiet : Quiet s) : Calm s t :=
  ⟨d.quiet quiet, d.busIdle, d.sig, fun e => by rw [d.ctl]; exact e⟩

/-- No register write raises `EOF`. -/
theorem writeReg_eof (r : Reg) (v : Byte) {s : State} (clear : s.ctl.eof = false) : (writeReg r v s).ctl.eof = false := by
  cases r with
  | control => rw [writeReg, (writeControl_status v s).1, clear, Bool.false_and]
  | status1 => rw [writeReg, writeStatus1]; simp only [clear, Bool.false_and]
  | wrData => rw [writeReg, writeWrData_eq]; exact clear
  | _ => exact clear

theorem store_calm (r : Reg) (v : Byte) (quiet : Quiet s) : Calm s (store r v s) := by
  rw [store_quiet r v quiet]
  exact ⟨(regWrite_turns _ _ _ _).trans quiet, regWrite_busIdle _ _ _ _, regWrite_sig _ _ _ _,
    fun e => by rw [regWrite_ctl]; exact writeReg_eof r v e⟩

theorem loadStatus2_calm (quiet : Quiet s) : Calm s (loadStatus .status2 s) :=
  (loadStatus_did (r := .status2) rfl (alone_of_quiet 1 quiet)).calm quiet

theorem setControl_calm (field : Layout → Fin 8) (quiet : Quiet s) : Calm s (setControl field s) := by
  have read := loadControl_did (alone_of_quiet 1 quiet)
  exact (read.calm quiet).trans (store_calm _ _ (read.quiet quiet))

theorem clearControl_calm (field : Layout → Fin 8) (quiet : Quiet s) : Calm s (clearControl field s) := by
  have read := loadControl_did (alone_of_quiet 1 quiet)
  exact (read.calm quiet).trans (store_calm _ _ (read.quiet quiet))

theorem pushPayload_calm (l : List Byte) (j : Byte) (quiet : Quiet s) : Calm s (pushPayload l j s) := by
  induction l generalizing j s with
  | nil => exact ⟨quiet, rfl, rfl, id⟩
  | cons b rest ih =>
    have guard : Calm s (guardRead j s) := (loadStatus2_calm (s := { s with eng := { s.eng with j := j } }) quiet).after_work rfl
    have push : Calm (guardRead j s) (pushGuarded b (guardRead j s)) := by
      unfold pushGuarded; split
      · exact ⟨guard.quiet, rfl, rfl, id⟩
      · exact store_calm .wrData b guard.quiet
    have first := guard.trans push
    exact first.trans (ih (j + 1) first.quiet)

theorem pushHeader_calm (quiet : Quiet s) : Calm s (pushHeader s) := by
  have target : Calm s (pushTarget (goto .w3 s)) := (store_calm (s := goto .w3 s) _ _ quiet).after_work rfl
  have txlen : Calm _ (pushTxlen (pushTarget (goto .w3 s))) := store_calm _ _ target.quiet
  exact (target.trans txlen).trans (store_calm _ _ txlen.quiet)

theorem pushBody_calm (quiet : Quiet s) : Calm s (pushBody s) := by
  unfold pushBody; split
  · exact ⟨quiet, rfl, rfl, id⟩
  · have command : Calm s (pushCommand (goto .w4 s)) := (store_calm (s := goto .w4 s) _ _ quiet).after_work rfl
    exact command.trans (pushPayload_calm _ _ command.quiet)

theorem pushed_calm (quiet : Quiet s) : Calm s (pushed s) := by
  have room := (checkRoom_did (alone_of_quiet 1 quiet)).calm quiet
  have clear : Calm (checkRoom s) (clearPendingReset (checkRoom s)) :=
    (clearControl_calm (s := goto .w2 (checkRoom s)) _ room.quiet).after_work rfl
  have header := pushHeader_calm clear.quiet
  exact ((room.trans clear).trans header).trans (pushBody_calm header.quiet)

theorem trigger_calm (quiet : Quiet s) : Calm s (trigger s) := by
  have set : Calm s (setControl Layout.txen (goto .w6 s)) := (setControl_calm (s := goto .w6 s) _ quiet).after_work rfl
  exact set.trans ((delayUs_did _ (alone_of_quiet 1 set.quiet)).calm set.quiet)

/-- W5 with an idle wire. -/
theorem checkIdle_idle_did (attempts : 1 ≤ s.cfg.idleAttempts) (idle : idleFlag s = true) (a : Alone 1 s) :
    Did 1 s (checkIdle s) s.ctl [.rd .eng .status2 (status2Byte s)] ∧ (checkIdle s).eng.res = .ok := by
  obtain ⟨done, ok⟩ := waitIdle_idle_did (s := enter .w5 (goto .w5 s)) attempts idle a
  exact ⟨(Did.call (s := goto .w5 s) done).after_work rfl, ok⟩

/-- A quiet completion wait with nothing to find ends in `Timeout`. -/
theorem waitComplete_timeout (len : Byte) (quiet : Quiet s)
    (none : (s.cfg.mode = .polled ∧ s.ctl.eof = false) ∨ (s.cfg.mode = .event ∧ s.sig = false)) :
    (waitComplete len s).eng.res = .err .timeout := by
  rcases none with ⟨mode, eof⟩ | ⟨mode, sig⟩
  · have poll : waitComplete len s = waitPoll s := by rw [waitComplete, mode]
    rw [poll]
    exact (waitPoll_exhausts_did eof (alone_of_quiet _ quiet)).2
  · have wait : waitComplete len s = waitEvent len s := by rw [waitComplete, mode]
    rw [wait]
    by_cases budget : eventBudget s.cfg len = 0
    · rw [waitEvent_noBudget sig budget]; rfl
    · rw [waitEvent_suspends sig budget, quiet, eventLoop, decideEvent, if_neg (by rw [goto_sig, sig]; decide)]; rfl

/-- Settles O28: `write_outcome`, and quiet the timeout that nothing prevents. -/
theorem writeCountsConsecutiveTimeouts : Obligations.WriteCountsConsecutiveTimeouts := by
  refine ⟨fun s idle survives => ?_, fun s idle quiet survives room wire attempts none => ?_⟩
  · obtain ⟨u, run⟩ := write_terminates survives
    obtain ⟨law, bitrate⟩ := write_outcome run
    have path := write_leads s u run
    have kept := path.kept
    refine ⟨_, exec_write idle run, ?_⟩
    rw [endInternal_eq]
    exact ⟨rfl, law, bitrate, kept.req (by decide), fun ok => (if_pos ok).trans (kept.rsp (by decide)), path.cfg,
      kept.irqMask (by decide), kept.results (by decide), kept.intEn1 (by decide), kept.intEn2 (by decide)⟩
  · have calm := pushed_calm quiet
    have ready : idleFlag (pushed s) = true := by
      rw [idleFlag_iff, (pushed_samePower s).pd, calm.busIdle]; exact wire
    obtain ⟨check, ok⟩ := checkIdle_idle_did (by rw [(pushed_path s).cfg]; exact attempts) ready (alone_of_quiet 1 calm.quiet)
    have calm' := calm.trans (check.calm calm.quiet)
    have before := calm'.trans (trigger_calm calm'.quiet)
    have cfg : (trigger (checked s)).cfg = s.cfg := ((checked_path s).trans ((trigger_path _).mono (by decide))).cfg
    have late : (awaited s).eng.res = .err .timeout := by
      refine waitComplete_timeout (s := enter .w7Wait (goto .w7 (trigger (checked s)))) _ before.quiet ?_
      refine none.imp (fun ⟨mode, eof, _⟩ => ⟨?_, before.eof eof⟩) fun ⟨mode, sig⟩ => ⟨?_, before.sig.trans sig⟩
      · exact (congrArg Params.mode cfg).trans mode
      · exact (congrArg Params.mode cfg).trans mode
    obtain ⟨u, run⟩ := write_terminates survives
    have notFull : wffFlag s = false := by
      rw [← Bool.not_eq_true, wffFlag_iff]; exact Nat.ne_of_lt room
    have out : timedOut (awaited s) = .next u := by
      rw [← concludeWrite_timeout late, ← run, write_room notFull]; exact (transmit_idle ok).symm
    have timed := timedOut_next out
    refine ⟨_, exec_write idle run, ?_⟩
    rw [endInternal_eq]
    exact ⟨timed.res, timed.tocnt.trans (by rw [(awaited_path s).kept.tocnt (by decide)])⟩

end Sys2Proof.Machine
end

section
/-! PROOF. WRITE by the engine alone (43_writer.md R127 to R131): the frame in the write FIFO, cut at its depth, and the controller at each phase. -/

namespace Sys2Proof.Machine

variable {s : State}

/-- `n` steps of the engine alone that put no byte on the wire. -/
def Ran (n : Nat) (s t : State) (k : Controller) : Prop := ∃ h, Did n s t k h ∧ ∀ x ∈ h, sentByte x = none

namespace Ran

variable {m n : Nat} {t u : State} {k k' : Controller}

theorem of_did {h : List Event} (d : Did n s t k h) (none : ∀ x ∈ h, sentByte x = none) : Ran n s t k := ⟨h, d, none⟩

theorem trans (r : Ran n s t k) (q : Ran m t u k') : Ran (n + m) s u k' := by
  obtain ⟨h, d, none⟩ := r
  obtain ⟨h', d', none'⟩ := q
  exact ⟨h' ++ h, d.trans d', fun x mem => (List.mem_append.mp mem).elim (none' x) (none x)⟩

theorem after_work (r : Ran n t u k) (same : shared t = shared s) : Ran n s u k := by
  obtain ⟨h, d, none⟩ := r
  exact ⟨h, d.after_work same, none⟩

theorem alone (r : Ran n s t k) (a : Alone (n + m) s) : Alone m t := by
  obtain ⟨h, d, -⟩ := r
  exact d.alone a

theorem ctl (r : Ran n s t k) : t.ctl = k := by obtain ⟨h, d, -⟩ := r; exact d.ctl
theorem cfg (r : Ran n s t k) : t.cfg = s.cfg := by obtain ⟨h, d, -⟩ := r; exact d.cfg
theorem busIdle (r : Ran n s t k) : t.busIdle = s.busIdle := by obtain ⟨h, d, -⟩ := r; exact d.busIdle
theorem req (r : Ran n s t k) : t.eng.req = s.eng.req := by obtain ⟨h, d, -⟩ := r; exact d.req

end Ran

/-! Pushes. -/

/-- The write FIFO after bytes were pushed in order, those beyond the depth dropped (R89). -/
def withPushed (depth : Nat) (l : List Byte) (k : Controller) : Controller :=
  { k with wfifo := (k.wfifo ++ l).take depth }

theorem withPushed_nil {depth : Nat} {k : Controller} (fits : k.wfifo.length ≤ depth) : withPushed depth [] k = k := by
  rw [withPushed, List.append_nil, List.take_of_length_le fits]

theorem take_take_append {α : Type} (d : Nat) (w m : List α) : (w.take d ++ m).take d = (w ++ m).take d := by
  rcases Nat.le_total w.length d with fits | full
  · rw [List.take_of_length_le fits]
  · rw [List.take_append_of_le_length full, List.take_append_of_le_length (by rw [List.length_take]; omega),
      List.take_take, Nat.min_self]

theorem withPushed_withPushed (depth : Nat) (l m : List Byte) (k : Controller) :
    withPushed depth m (withPushed depth l k) = withPushed depth (l ++ m) k := by
  simp only [withPushed, take_take_append, List.append_assoc]

/-- Out of both resets, with the write FIFO within its depth. -/
structure Pushable (s : State) : Prop where
  rst : s.ctl.rst = false
  frst : s.ctl.frst = false
  fits : s.ctl.wfifo.length ≤ s.cfg.wfifoDepth

theorem Pushable.later {l : List Byte} {t : State} (o : Pushable s) (ctl : t.ctl = withPushed s.cfg.wfifoDepth l s.ctl)
    (cfg : t.cfg = s.cfg) : Pushable t := by
  refine ⟨by rw [ctl]; exact o.rst, by rw [ctl]; exact o.frst, ?_⟩
  rw [ctl, cfg]
  exact List.length_take_le _ _

theorem withPushed_full {depth : Nat} {k : Controller} (l : List Byte) (full : k.wfifo.length = depth) :
    withPushed depth l k = k := by
  rw [withPushed, List.take_append_of_le_length (Nat.le_of_eq full.symm), List.take_of_length_le (Nat.le_of_eq full)]

theorem withPushed_length_le (depth : Nat) (l : List Byte) (k : Controller) :
    (withPushed depth l k).wfifo.length ≤ k.wfifo.length + l.length :=
  (List.length_take_le' _ _).trans (Nat.le_of_eq List.length_append)

/-- A push outside the resets. -/
theorem writeWrData_open (b : Byte) (o : Pushable s) :
    writeWrData b s = { s with ctl := withPushed s.cfg.wfifoDepth [b] s.ctl } := by
  rw [writeWrData_eq]
  by_cases full : s.ctl.wfifo.length = s.cfg.wfifoDepth
  · rw [if_pos (.inr (.inr full)), withPushed_full _ full]
  · have room : (s.ctl.wfifo ++ [b]).length ≤ s.cfg.wfifoDepth := by
      rw [List.length_append, List.length_singleton]; exact Nat.lt_of_le_of_ne o.fits full
    rw [if_neg (by simp [o.rst, o.frst, full]), withPushed, List.take_of_length_le room]

theorem push_ran (b : Byte) (o : Pushable s) (a : Alone 1 s) :
    Ran 1 s (store .wrData b s) (withPushed s.cfg.wfifoDepth [b] s.ctl) := by
  have written : writeReg .wrData b s = { s with ctl := withPushed s.cfg.wfifoDepth [b] s.ctl } := writeWrData_open b o
  have done := store_did (r := .wrData) (v := b) (by rw [written]) a
  rw [written] at done
  exact .of_did done (by simp [sentByte])

/-- Pushes after pushes. -/
theorem Ran.push {n m : Nat} {t u : State} {l l' : List Byte} (r : Ran n s t (withPushed s.cfg.wfifoDepth l s.ctl))
    (q : Ran m t u (withPushed t.cfg.wfifoDepth l' t.ctl)) :
    Ran (n + m) s u (withPushed s.cfg.wfifoDepth (l ++ l') s.ctl) := by
  rw [r.ctl, r.cfg, withPushed_withPushed] at q
  exact r.trans q

theorem pushTarget_ran (o : Pushable s) (a : Alone 1 s) :
    Ran 1 s (pushTarget s) (withPushed s.cfg.wfifoDepth [s.eng.req.targetAddress] s.ctl) := push_ran _ o a

theorem pushTxlen_ran (o : Pushable s) (a : Alone 1 s) :
    Ran 1 s (pushTxlen s) (withPushed s.cfg.wfifoDepth [txlen s.cfg s.eng.req] s.ctl) := push_ran _ o a

theorem pushRxlen_ran (o : Pushable s) (a : Alone 1 s) :
    Ran 1 s (pushRxlen s) (withPushed s.cfg.wfifoDepth [rxlen s.eng.req] s.ctl) := push_ran _ o a

theorem pushCommand_ran (o : Pushable s) (a : Alone 1 s) :
    Ran 1 s (pushCommand s) (withPushed s.cfg.wfifoDepth [s.eng.req.commandCode] s.ctl) := push_ran _ o a

/-- The header of a frame. -/
def headerBytes (p : Params) (r : Request) : List Byte := [r.targetAddress, txlen p r, rxlen r]

/-- W3 by the engine alone. -/
theorem pushHeader_ran (o : Pushable s) (a : Alone 3 s) :
    Ran 3 s (pushHeader s) (withPushed s.cfg.wfifoDepth (headerBytes s.cfg s.eng.req) s.ctl) := by
  have o₀ : Pushable (goto .w3 s) := ⟨o.rst, o.frst, o.fits⟩
  have target := (pushTarget_ran o₀ (a.of_le (by decide))).after_work (s := s) rfl
  have length := pushTxlen_ran (o.later target.ctl target.cfg) (target.alone (a.of_le (n := 3) (m := 1 + 1) (by decide)))
  rw [target.cfg, target.req] at length
  have two := target.push (by rw [target.cfg]; exact length)
  have expected := pushRxlen_ran (o.later two.ctl two.cfg) (two.alone (m := 1) a)
  rw [two.cfg, two.req] at expected
  exact two.push (by rw [two.cfg]; exact expected)

/-! The guarded payload. -/

theorem guardRead_did (j : Byte) (a : Alone 1 s) :
    Did 1 s (guardRead j s) s.ctl [.rd .eng .status2 (status2Byte s)] :=
  (loadStatus_did (r := .status2) (s := { s with eng := { s.eng with j := j } }) rfl a).after_work rfl

theorem shows_guardRead (j : Byte) (s : State) : shows Layout.wff (guardRead j s) = wffFlag s := by
  rw [shows, guardRead, loadStatus_eng, loadStatus_cfg]
  exact hasBit_status2Byte_wff { s with eng := { s.eng with j := j } }

/-- One payload byte: the guard read, and the push unless it showed a full FIFO. -/
theorem pushOne_ran (b j : Byte) (o : Pushable s) (a : Alone 2 s) :
    ∃ n, Ran n s (pushGuarded b (guardRead j s)) (withPushed s.cfg.wfifoDepth [b] s.ctl) ∧ n ≤ 2 ∧
      (s.ctl.wfifo.length < s.cfg.wfifoDepth → n = 2) := by
  have guard : Ran 1 s (guardRead j s) s.ctl := .of_did (guardRead_did j (a.of_le (by decide))) (by simp [sentByte])
  have shown := shows_guardRead j s
  cases full : wffFlag s with
  | true =>
    have none := (wffFlag_iff s).mp full
    rw [pushGuarded, if_pos (shown.trans full), withPushed_full _ none]
    exact ⟨1, guard, by decide, fun room => absurd none (Nat.ne_of_lt room)⟩
  | false =>
    rw [pushGuarded, if_neg (by rw [shown, full]; decide)]
    have o' : Pushable (guardRead j s) := ⟨by rw [guard.ctl]; exact o.rst, by rw [guard.ctl]; exact o.frst,
      by rw [guard.ctl, guard.cfg]; exact o.fits⟩
    have push := push_ran b o' (guard.alone (m := 1) a)
    rw [guard.ctl, guard.cfg] at push
    exact ⟨2, guard.trans push, by decide, fun _ => rfl⟩

/-- W4, the payload: as many steps as the guard allows, two a byte with room for all. -/
theorem pushPayload_ran (l : List Byte) (j : Byte) (o : Pushable s) (a : Alone (2 * l.length) s) :
    ∃ n, Ran n s (pushPayload l j s) (withPushed s.cfg.wfifoDepth l s.ctl) ∧ n ≤ 2 * l.length ∧
      (s.ctl.wfifo.length + l.length ≤ s.cfg.wfifoDepth → n = 2 * l.length) := by
  induction l generalizing j s with
  | nil =>
    refine ⟨0, ?_, Nat.le_refl _, fun _ => rfl⟩
    rw [withPushed_nil o.fits]
    exact .of_did (.refl s) nofun
  | cons b rest ih =>
    rw [List.length_cons, Nat.mul_succ, Nat.add_comm] at a ⊢
    obtain ⟨n, first, most, exact⟩ := pushOne_ran b j o (a.of_le (by omega))
    obtain ⟨m, later, most', exact'⟩ := ih (j + 1) (o.later first.ctl first.cfg)
      (first.alone (a.of_le (by omega)))
    refine ⟨n + m, first.push later, by omega, fun room => ?_⟩
    rw [exact (by omega), exact' ?_]
    rw [first.ctl, first.cfg]
    exact (Nat.add_le_add_right (withPushed_length_le _ [b] _) _).trans (by simp; omega)

/-- The engine steps of W4 when the FIFO has room. -/
def bodySteps (p : Params) (r : Request) : Nat := if txlen p r = 0 then 0 else 1 + 2 * r.writePayload.length

/-- The bytes of W4. -/
def bodyBytes (p : Params) (r : Request) : List Byte := if txlen p r = 0 then [] else r.commandCode :: r.writePayload

theorem frameBytes_eq (p : Params) (r : Request) : frameBytes p r = headerBytes p r ++ bodyBytes p r := rfl

/-- W4 by the engine alone. -/
theorem pushBody_ran (o : Pushable s) (a : Alone (bodySteps s.cfg s.eng.req) s) :
    ∃ n, Ran n s (pushBody s) (withPushed s.cfg.wfifoDepth (bodyBytes s.cfg s.eng.req) s.ctl) ∧
      n ≤ bodySteps s.cfg s.eng.req ∧
      (s.ctl.wfifo.length + (bodyBytes s.cfg s.eng.req).length ≤ s.cfg.wfifoDepth → n = bodySteps s.cfg s.eng.req) := by
  unfold bodySteps bodyBytes at *
  by_cases short : txlen s.cfg s.eng.req = 0
  · rw [if_pos short, if_pos short, pushBody, if_pos short, withPushed_nil o.fits]
    exact ⟨0, .of_did (.work rfl) nofun, Nat.le_refl _, fun _ => rfl⟩
  · rw [if_neg short] at a
    rw [if_neg short, if_neg short, pushBody, if_neg short]
    have o₀ : Pushable (goto .w4 s) := ⟨o.rst, o.frst, o.fits⟩
    have command := (pushCommand_ran o₀ (a.of_le (by omega))).after_work (s := s) rfl
    obtain ⟨n, payload, most, exact⟩ := pushPayload_ran s.eng.req.writePayload 0 (o.later command.ctl command.cfg)
      (command.alone a)
    refine ⟨1 + n, command.push payload, by omega, fun room => ?_⟩
    rw [List.length_cons] at room
    have grown := withPushed_length_le s.cfg.wfifoDepth [s.eng.req.commandCode] s.ctl
    rw [exact (by rw [command.ctl, command.cfg]; exact (Nat.add_le_add_right grown _).trans (by simp; omega))]

/-- The controller once WRITE has pushed its frame: `FRST` cleared, the frame in the write FIFO (R127 to R129). -/
def framed (p : Params) (r : Request) (k : Controller) : Controller :=
  withPushed p.wfifoDepth (frameBytes p r) { k with frst := false }

theorem clearPendingReset_did (rst : s.ctl.rst = false) (a : Alone 2 s) :
    Did 2 s (clearPendingReset s) { s.ctl with frst := false }
      [.wr .eng .control (controlByte s.cfg.layout { s.ctl with frst := false }),
        .rd .eng .control (controlByte s.cfg.layout s.ctl)] :=
  (clearControl_did (s := goto .w2 s) (k := { s.ctl with frst := false }) a (controlByte_andNot_frst _ _) rst rfl).after_work rfl

/-- W1 to W4 by the engine alone. -/
theorem pushed_ran (rst : s.ctl.rst = false) (fits : s.ctl.wfifo.length ≤ s.cfg.wfifoDepth)
    (a : Alone (6 + bodySteps s.cfg s.eng.req) s) :
    ∃ n, Ran n s (pushed s) (framed s.cfg s.eng.req s.ctl) ∧ n ≤ 6 + bodySteps s.cfg s.eng.req ∧
      (s.ctl.wfifo.length + (frameBytes s.cfg s.eng.req).length ≤ s.cfg.wfifoDepth →
        n = 6 + bodySteps s.cfg s.eng.req) := by
  have room : Ran 1 s (checkRoom s) s.ctl := .of_did (checkRoom_did (a.of_le (by omega))) (by simp [sentByte])
  have clear : Ran 2 (checkRoom s) (clearPendingReset (checkRoom s)) { s.ctl with frst := false } := by
    have done := clearPendingReset_did (s := checkRoom s) (by rw [room.ctl]; exact rst) (room.alone (a.of_le (by omega)))
    rw [room.ctl, room.cfg] at done
    exact .of_did done (by simp [sentByte])
  have three := room.trans clear
  have o : Pushable (clearPendingReset (checkRoom s)) :=
    ⟨by rw [clear.ctl]; exact rst, by rw [clear.ctl], by rw [clear.ctl, three.cfg]; exact fits⟩
  have header := pushHeader_ran o (three.alone (a.of_le (by omega)))
  have six := three.trans header
  have body := pushBody_ran (o.later header.ctl header.cfg)
    (six.alone (by rw [six.cfg, six.req]; exact a))
  obtain ⟨n, last, most, exact⟩ := body
  have pushes := header.push last
  rw [header.cfg, header.req] at pushes most exact
  rw [clear.ctl, three.cfg, three.req, ← frameBytes_eq] at pushes
  refine ⟨6 + n, ?_, ?_, fun fits' => ?_⟩
  · have all := three.trans pushes
    rw [← Nat.add_assoc] at all
    exact all
  · rw [three.cfg, three.req] at most; omega
  · rw [header.ctl, three.cfg, three.req, clear.ctl] at exact
    rw [frameBytes_eq, List.length_append] at fits'
    have grown := withPushed_length_le s.cfg.wfifoDepth (headerBytes s.cfg s.eng.req) { s.ctl with frst := false }
    rw [exact ((Nat.add_le_add_right grown _).trans (by rw [Nat.add_assoc]; exact fits'))]

/-- W5 at a busy wire. -/
theorem checkIdle_busy_did (busy : idleFlag s = false) (a : Alone (2 * s.cfg.idleAttempts) s) :
    Did (2 * s.cfg.idleAttempts) s (checkIdle s) s.ctl
      (List.replicate s.cfg.idleAttempts [Event.delayUs s.cfg.idlePollUs, .rd .eng .status2 (status2Byte s)]).flatten ∧
    (checkIdle s).eng.res = .err .busBusy := by
  obtain ⟨done, failed⟩ := waitIdle_busy_did (s := enter .w5 (goto .w5 s)) busy a
  exact ⟨(Did.call (s := goto .w5 s) done).after_work rfl, failed⟩

/-- With room WRITE goes on past W1. -/
theorem write_busy (room : s.ctl.wfifo.length < s.cfg.wfifoDepth) (busy : (checked s).eng.res = .err .busBusy) :
    write s = .next (checked s) :=
  (write_room (by rw [← Bool.not_eq_true, wffFlag_iff]; exact Nat.ne_of_lt room)).trans (transmit_busy busy)

theorem write_sent (room : s.ctl.wfifo.length < s.cfg.wfifoDepth) (idle : (checked s).eng.res = .ok)
    (done : (awaited s).eng.res = .ok) : write s = .next (returnOk (clearTimeouts (awaited s))) :=
  ((write_room (by rw [← Bool.not_eq_true, wffFlag_iff]; exact Nat.ne_of_lt room)).trans (transmit_idle idle)).trans
    (concludeWrite_ok done)

/-- The end of an internal operation by the engine alone. -/
theorem endInternal_did {n : Nat} {u : State} {k : Controller} {h : List Event} (quiet : Quiet s) (d : Did n s u k h) :
    (toIdle (settleResponse u)).ctl = k ∧ (toIdle (settleResponse u)).eng.tocnt = s.eng.tocnt ∧
    (toIdle (settleResponse u)).eng.bitrate = s.eng.bitrate ∧ (toIdle (settleResponse u)).eng.req = s.eng.req ∧
    ResponseSettled s (toIdle (settleResponse u)) ∧ (toIdle (settleResponse u)).eng.phase = .idle ∧
    SameOutside s (toIdle (settleResponse u)) ∧ (toIdle (settleResponse u)).results = s.results := by
  have settled := responseSettled_of d.rsp d.draws
  have outside := d.outside quiet
  rw [endInternal_eq] at settled ⊢
  exact ⟨d.ctl, d.tocnt, d.bitrate, d.req, settled, rfl, outside, d.results⟩

/-- Settles O26: the pushes, and the idle check that fails. -/
theorem writeBusBusyLeavesTheFrame : Obligations.WriteBusBusyLeavesTheFrame := by
  intro s idle quiet c pd wire rst room
  obtain ⟨n, ⟨e, pushes, -⟩, -, -⟩ := pushed_ran rst c.wfifoFits (alone_of_quiet _ quiet)
  have busy : idleFlag (pushed s) = false :=
    idleFlag_of_busy (by rw [pushes.ctl]; exact pd) (pushes.busIdle.trans wire)
  obtain ⟨check, failed⟩ := checkIdle_busy_did busy (alone_of_quiet _ (pushes.quiet quiet))
  rw [pushes.ctl] at check
  have done : Did _ s (checked s) _ _ := pushes.trans check
  exact ⟨_, exec_write idle (write_busy room failed), (endInternal_res _).trans failed, endInternal_did quiet done⟩

/-! The trigger and the completion wait. -/

/-- W5 and the trigger of W6, before the settle delay. -/
def armed (s : State) : State := setControl Layout.txen (goto .w6 (checked s))

theorem trigger_checked (s : State) : trigger (checked s) = delayUs (armed s).cfg.settleUs (armed s) := by
  rw [trigger, armed, setControl_cfg]; rfl

theorem setTxen_did (rst : s.ctl.rst = false) (frst : s.ctl.frst = false) (a : Alone 2 s) :
    Did 2 s (setControl Layout.txen (goto .w6 s)) { s.ctl with txen := true }
      [.wr .eng .control (controlByte s.cfg.layout { s.ctl with txen := true }),
        .rd .eng .control (controlByte s.cfg.layout s.ctl)] := by
  have done := (setControl_did (s := goto .w6 s) (k := { s.ctl with txen := true }) a (controlByte_or_txen _ _) rst
    rfl).after_work rfl
  rwa [held_of_frst (k := { s.ctl with txen := true }) frst] at done

/-- W1 to the trigger of W6 by the engine alone, with an idle wire. -/
theorem armed_ran (rst : s.ctl.rst = false) (fits : s.ctl.wfifo.length ≤ s.cfg.wfifoDepth)
    (attempts : 1 ≤ s.cfg.idleAttempts) (idle : idleFlag s = true) (a : Alone (9 + bodySteps s.cfg s.eng.req) s) :
    ∃ n, Ran n s (armed s) { framed s.cfg s.eng.req s.ctl with txen := true } ∧ (checked s).eng.res = .ok ∧
      (s.ctl.wfifo.length + (frameBytes s.cfg s.eng.req).length ≤ s.cfg.wfifoDepth →
        n = 9 + bodySteps s.cfg s.eng.req) := by
  obtain ⟨n, pushes, most, exact⟩ := pushed_ran rst fits (a.of_le (by omega))
  have ready : idleFlag (pushed s) = true := by
    rw [idleFlag_iff, pushes.ctl, pushes.busIdle]; exact (idleFlag_iff s).mp idle
  obtain ⟨check, ok⟩ := checkIdle_idle_did (by rw [pushes.cfg]; exact attempts) ready
    (pushes.alone (a.of_le (by omega)))
  have checked : Ran (n + 1) s (checked s) (framed s.cfg s.eng.req s.ctl) := by
    rw [pushes.ctl] at check
    exact pushes.trans (.of_did check (by simp [sentByte]))
  have set := setTxen_did (s := Machine.checked s) (by rw [checked.ctl]; exact rst) (by rw [checked.ctl]; rfl)
    (checked.alone (a.of_le (by omega)))
  rw [checked.ctl] at set
  exact ⟨n + 1 + 2, checked.trans (.of_did set (by simp [sentByte])), ok, fun room => by rw [exact room]; omega⟩

/-- W7, POLLED, with `EOF` set. -/
theorem awaitCompletion_polled_did (mode : s.cfg.mode = .polled) (eof : s.ctl.eof = true)
    (attempts : 1 ≤ s.cfg.txPollAttempts) (a : Alone 1 s) :
    Did 1 s (awaitCompletion s) s.ctl [.rd .eng .status1 (bit s.cfg.layout.eof)] ∧ (awaitCompletion s).eng.res = .ok := by
  obtain ⟨done, ok⟩ := waitPoll_done_did (s := enter .w7Wait (goto .w7 s)) attempts eof a
  have poll : waitComplete (txlen s.cfg s.eng.req) (enter .w7Wait (goto .w7 s)) = waitPoll (enter .w7Wait (goto .w7 s)) := by
    rw [waitComplete, show (enter .w7Wait (goto .w7 s)).cfg.mode = .polled from mode]
  rw [← poll] at done ok
  exact ⟨(Did.call (s := goto .w7 s) done).after_work rfl, ok⟩

theorem clearTimeouts_quiet (quiet : Quiet s) : clearTimeouts s = putTimeouts 0 s := others_quiet quiet

/-- The end of a WRITE that succeeded, by the engine alone. -/
theorem endWrite_did {n : Nat} {u : State} {k : Controller} {h : List Event} (quiet : Quiet s) (d : Did n s u k h) :
    let t := toIdle (settleResponse (returnOk (putTimeouts 0 u)))
    t.eng.res = .ok ∧ t.eng.tocnt = 0 ∧ t.ctl = k ∧ t.eng.bitrate = s.eng.bitrate ∧ t.eng.req = s.eng.req ∧
    t.eng.rsp = s.eng.rsp ∧ t.eng.phase = .idle ∧ SameOutside s t ∧ t.results = s.results ∧ t.draws = s.draws := by
  have outside := d.outside quiet
  rw [endInternal_eq]
  exact ⟨rfl, rfl, d.ctl, d.bitrate, d.req, d.rsp, rfl, outside, d.results, d.draws⟩

/-- Settles O27: the pushes, the trigger, and the stale `EOF` at the first poll. -/
theorem writeSucceedsOnStaleEof : Obligations.WriteSucceedsOnStaleEof := by
  intro s idle quiet c mode attempts polls wire rst eof room
  obtain ⟨n, ⟨e, arms, -⟩, ok, -⟩ := armed_ran rst c.wfifoFits attempts ((idleFlag_iff s).mpr wire) (alone_of_quiet _ quiet)
  have settle := delayUs_did (armed s).cfg.settleUs (alone_of_quiet 1 (arms.quiet quiet))
  rw [← trigger_checked, arms.ctl] at settle
  have sent := arms.trans settle
  obtain ⟨poll, done⟩ := awaitCompletion_polled_did (s := trigger (checked s)) (by rw [sent.cfg]; exact mode)
    (by rw [sent.ctl]; exact eof) (by rw [sent.cfg]; exact polls) (alone_of_quiet _ (sent.quiet quiet))
  rw [sent.ctl] at poll
  have all : Did _ s (awaited s) _ _ := sent.trans poll
  have run := exec_write idle (write_sent room ok done)
  rw [clearTimeouts_quiet (all.quiet quiet)] at run
  exact ⟨_, run, endWrite_did quiet all⟩

end Sys2Proof.Machine
end

section
/-! PROOF. READ under any schedule (45_reader.md R155 to R160): a slot is popped only when its wait saw a byte, the other agents pop nothing, and the response grows one byte a payload slot. -/

namespace Sys2Proof.Machine

variable {s : State}

/-! The read FIFO only grows while the engine is not popping. -/

theorem handlerStep_rfifo (s : State) : (handlerStep s).ctl.rfifo = s.ctl.rfifo := by
  unfold handlerStep; split
  · rw [handlerH0_eq]
  · rw [handlerH1_eq]
  · rw [handlerH2_eq]
  · rw [handlerH3_eq]
  · rw [handlerH4_eq]
  · rw [handlerH5_eq]

theorem agentStep_rfifo (m : Turn) (s : State) : ∃ q, (agentStep m s).ctl.rfifo = s.ctl.rfifo ++ q := by
  have same {t : State} (h : t.ctl.rfifo = s.ctl.rfifo) : ∃ q, t.ctl.rfifo = s.ctl.rfifo ++ q :=
    ⟨[], h.trans (List.append_nil _).symm⟩
  cases m with
  | eng | expire => exact same rfl
  | ctlStart | ctlTx | ctlUnderrun | ctlEof | ctlEnd | ctlRx b | ctlErr e => exact (agentStep_wireMove (.inl rfl) s).rfifo
  | envBus v => exact (agentStep_wireMove (.inr (.inl ⟨v, rfl⟩)) s).rfifo
  | envErr e => exact (agentStep_wireMove (.inr (.inr ⟨e, rfl⟩)) s).rfifo
  | isr =>
    simp only [agentStep, isrStep]; split
    · exact same (handlerStep_rfifo s)
    · exact same rfl
  | host bytes => simp only [agentStep, offer]; split <;> exact same rfl
  | platform w => simp only [agentStep, offer]; split <;> exact same rfl

theorem othersFrom_rfifo (l : List Turn) (s : State) (some : s.ctl.rfifo ≠ []) : (othersFrom l s).ctl.rfifo ≠ [] := by
  induction l generalizing s with
  | nil => exact some
  | cons m l ih =>
    by_cases h : m = .eng
    · subst h; exact some
    · rw [othersFrom_other h]
      obtain ⟨q, grown⟩ := agentStep_rfifo m s
      exact ih _ (by rw [grown]; exact List.append_ne_nil_of_left_ne_nil some q)

/-- The other agents pop nothing. -/
theorem others_rfifo (some : s.ctl.rfifo ≠ []) : (others s).ctl.rfifo ≠ [] := othersFrom_rfifo _ s some

/-! The wait for one slot. -/

/-- The slot index, the count, the response and the two checksums. -/
structure SameReader (a b : State) : Prop where
  i : b.eng.i = a.eng.i
  rcvd : b.eng.rcvd = a.eng.rcvd
  rsp : b.eng.rsp = a.eng.rsp
  wfcs : b.eng.wfcs = a.eng.wfcs
  rfcs : b.eng.rfcs = a.eng.rfcs

theorem SameReader.trans {a b c : State} (h : SameReader a b) (k : SameReader b c) : SameReader a c :=
  ⟨k.i.trans h.i, k.rcvd.trans h.rcvd, k.rsp.trans h.rsp, k.wfcs.trans h.wfcs, k.rfcs.trans h.rfcs⟩

theorem shows_rxPoll (s : State) : shows Layout.rfe (rxPoll s) = rfeFlag s := by
  rw [shows, rxPoll, loadStatus_eng, loadStatus_cfg]
  exact hasBit_status2Byte_rfe (goto .d3 s)

theorem slotWait_there (n : Nat) (some : s.ctl.rfifo ≠ []) : slotWait (n + 1) s = returnOk (goto .d4 (rxPoll s)) := by
  have flag : rfeFlag s = false := by rw [← Bool.not_eq_true, rfeFlag_iff]; exact some
  rw [slotWait, rxDecide, if_neg (by rw [shows_rxPoll, flag]; decide)]

theorem slotWait_empty (n : Nat) (none : s.ctl.rfifo = []) : slotWait (n + 1) s = slotWait n (rxDelay (goto .d4 (rxPoll s))) := by
  rw [slotWait, rxDecide, if_pos (by rw [shows_rxPoll]; exact (rfeFlag_iff s).mpr none)]

theorem rxPoll_reader (s : State) : SameReader s (rxPoll s) := by constructor <;> simp [rxPoll]

theorem rxDelay_reader (s : State) : SameReader s (rxDelay s) := by
  constructor <;> simp [rxDelay, countAttempt, setAttempts]

theorem rxPoll_rfifo (some : s.ctl.rfifo ≠ []) : (rxPoll s).ctl.rfifo ≠ [] := by
  refine others_rfifo ?_
  rw [latchS_ctl, regRead_ctl, if_neg (by decide)]; exact some

/-- The wait ends in `Ok` with a byte in the FIFO, or in `Timeout`; it touches nothing the reader keeps. -/
theorem slotWait_ends (n : Nat) (s : State) :
    (((slotWait n s).eng.res = .ok ∧ (slotWait n s).ctl.rfifo ≠ []) ∨ (slotWait n s).eng.res = .err .timeout) ∧
    SameReader s (slotWait n s) := by
  induction n generalizing s with
  | zero => exact ⟨.inr rfl, rfl, rfl, rfl, rfl, rfl⟩
  | succ n ih =>
    have poll := rxPoll_reader s
    by_cases none : s.ctl.rfifo = []
    · rw [slotWait_empty n none]
      obtain ⟨outcome, later⟩ := ih (rxDelay (goto .d4 (rxPoll s)))
      have delay := rxDelay_reader (goto .d4 (rxPoll s))
      have round : SameReader s (rxDelay (goto .d4 (rxPoll s))) := poll.trans ⟨delay.i, delay.rcvd, delay.rsp, delay.wfcs, delay.rfcs⟩
      exact ⟨outcome, round.trans later⟩
    · rw [slotWait_there n none]
      exact ⟨.inl ⟨rfl, rxPoll_rfifo none⟩, poll.i, poll.rcvd, poll.rsp, poll.wfcs, poll.rfcs⟩

theorem awaitSlot_ends (s : State) :
    (((awaitSlot s).eng.res = .ok ∧ (awaitSlot s).ctl.rfifo ≠ []) ∨ (awaitSlot s).eng.res = .err .timeout) ∧
    SameReader s (awaitSlot s) := by
  obtain ⟨outcome, same⟩ := slotWait_ends s.cfg.rxPollAttempts (loadRxAttempts s)
  exact ⟨outcome, same.i, same.rcvd, same.rsp, same.wfcs, same.rfcs⟩

/-- D5 of a byte that is there uses no draw. -/
theorem popSlot_draws (some : s.ctl.rfifo ≠ []) : (popSlot s).draws = s.draws := by
  obtain ⟨b, q, fifo⟩ := List.exists_cons_of_ne_nil some
  have read : readRdData (goto .d5 s) = _ := readRdData_cons (s := goto .d5 s) fifo
  simp only [popSlot, loadData, others_draws, latchB_draws, regRead, present, record, readReg, read, goto_draws]

theorem popSlot_eng (s : State) : (popSlot s).eng = { s.eng with b := (readRdData (goto .d5 s)).1, phase := .at .d5 } := by
  rw [popSlot, loadData_eng]; rfl

/-! The slots. -/

/-- At slot `i` with `left` slots to go: nothing kept before slot 0, `i - 1` bytes of the payload before a later one, which only a request that is no ping reaches. -/
structure AtSlot (cmd : Byte) (len : Half) (left : Nat) (s : State) : Prop where
  count : s.eng.i + left = len.toNat + 2
  first : s.eng.i = 0 → s.eng.rsp.bytes = []
  later : 0 < s.eng.i → cmd ≠ s.cfg.pingCmd ∧ s.eng.rsp.bytes.length + 1 = s.eng.i

/-- How the slots end. -/
structure SlotsEnd (cmd : Byte) (len : Half) (s t : State) : Prop where
  res : t.eng.res = .ok ∨ t.eng.res = .err .timeout
  draws : t.draws = s.draws
  index : t.eng.i ≤ len.toNat + 1
  bytes : t.eng.res = .ok → t.eng.rsp.bytes.length = if cmd = s.cfg.pingCmd then 1 else len.toNat

theorem AtSlot.of_same {cmd : Byte} {len : Half} {left : Nat} {t : State} (h : AtSlot cmd len left s) (i : t.eng.i = s.eng.i)
    (rsp : t.eng.rsp = s.eng.rsp) (cfg : t.cfg = s.cfg) : AtSlot cmd len left t := by
  obtain ⟨count, first, later⟩ := h
  exact ⟨by rw [i]; exact count, by rw [i, rsp]; exact first, by rw [i, rsp, cfg]; exact later⟩

theorem placeByte_frame (cmd : Byte) (len : Half) (s : State) :
    (placeByte cmd len s).draws = s.draws ∧ (placeByte cmd len s).eng.i = s.eng.i ∧
    (placeByte cmd len s).eng.res = s.eng.res ∧ (placeByte cmd len s).cfg = s.cfg := by
  unfold placeByte; split
  · split <;> exact ⟨rfl, rfl, rfl, rfl⟩
  · split <;> exact ⟨rfl, rfl, rfl, rfl⟩

/-- D6 of the last slot: the response is complete. -/
theorem placeByte_last {cmd : Byte} {len : Half} {left : Nat} (at_ : AtSlot cmd len (left + 1) s) (ends : endsLoop cmd len s = true) :
    (placeByte cmd len s).eng.rsp.bytes.length = if cmd = s.cfg.pingCmd then 1 else len.toNat := by
  simp only [endsLoop, Bool.or_eq_true, decide_eq_true_iff] at ends
  unfold placeByte
  by_cases zero : s.eng.i = 0
  · have ping : cmd = s.cfg.pingCmd := ends.elim And.right fun last => by omega
    rw [if_pos zero, if_pos ping, if_pos ping]; rfl
  · obtain ⟨other, length⟩ := at_.later (Nat.pos_of_ne_zero zero)
    have last : s.eng.i = len.toNat + 1 := by
      have := at_.count
      rcases ends with ⟨h, -⟩ | h <;> omega
    rw [if_neg zero, if_pos last, if_neg other]
    change s.eng.rsp.bytes.length = _
    omega

/-- D6 of an earlier slot: the next slot begins. -/
theorem placeByte_next {cmd : Byte} {len : Half} {left : Nat} (at_ : AtSlot cmd len (left + 1) s) (goes : endsLoop cmd len s = false) :
    AtSlot cmd len left (setSlot (s.eng.i + 1) (placeByte cmd len s)) := by
  simp only [endsLoop, Bool.or_eq_false_iff, decide_eq_false_iff_not, not_and] at goes
  obtain ⟨noPing, notLast⟩ := goes
  obtain ⟨-, -, -, cfg⟩ := placeByte_frame cmd len s
  have count := at_.count
  refine ⟨?_, fun zero => absurd zero (Nat.succ_ne_zero _), fun _ => ?_⟩
  · change s.eng.i + 1 + left = _; omega
  change cmd ≠ (placeByte cmd len s).cfg.pingCmd ∧ (placeByte cmd len s).eng.rsp.bytes.length + 1 = s.eng.i + 1
  rw [cfg]
  unfold placeByte
  by_cases zero : s.eng.i = 0
  · rw [if_pos zero, if_neg (noPing zero)]
    exact ⟨noPing zero, by rw [show (keepWriteChecksum s).eng.rsp.bytes = [] from at_.first zero, zero]; rfl⟩
  · obtain ⟨other, length⟩ := at_.later (Nat.pos_of_ne_zero zero)
    rw [if_neg zero, if_neg (by omega)]
    refine ⟨other, ?_⟩
    change (s.eng.rsp.bytes ++ [s.eng.b]).length + 1 = _
    rw [List.length_append, List.length_singleton, length]

theorem keepByte_last {cmd : Byte} {len : Half} {again : State → State} (ends : endsLoop cmd len (goto .d6 s) = true) :
    keepByte cmd len again s = placeByte cmd len (goto .d6 s) := if_pos ends

theorem keepByte_next {cmd : Byte} {len : Half} {again : State → State} (goes : endsLoop cmd len (goto .d6 s) = false) :
    keepByte cmd len again s = again (setSlot ((goto .d6 s).eng.i + 1) (placeByte cmd len (goto .d6 s))) :=
  if_neg fun h => Bool.noConfusion (goes.symm.trans (h : endsLoop cmd len (goto .d6 s) = true))

/-- The slots under any schedule (R155, R156, R246). -/
theorem slotLoop_ends (cmd : Byte) (len : Half) {left : Nat} {s : State} (some : left ≠ 0) (at_ : AtSlot cmd len left s) :
    SlotsEnd cmd len s (slotLoop cmd len left s) := by
  induction left generalizing s with
  | zero => exact absurd rfl some
  | succ left ih =>
    obtain ⟨outcome, same⟩ := awaitSlot_ends s
    have path := awaitSlot_path s
    have draws : (awaitSlot s).draws = s.draws := path.kept.draws (by decide)
    have index : s.eng.i ≤ len.toNat + 1 := by have := at_.count; omega
    rw [slotLoop, takeByte]
    rcases outcome with ⟨ok, there⟩ | late
    · rw [if_pos ((returnedOk_iff _).mpr ok)]
      let u := goto .d6 (popSlot (awaitSlot s))
      have eng := popSlot_eng (awaitSlot s)
      have res : u.eng.res = .ok := (congrArg Engine.res eng).trans ok
      have cfg : u.cfg = s.cfg := (loadData_cfg _).trans path.cfg
      have popped : u.draws = s.draws := (popSlot_draws there).trans draws
      have atU : AtSlot cmd len (left + 1) u :=
        at_.of_same ((congrArg Engine.i eng).trans same.i) ((congrArg Engine.rsp eng).trans same.rsp) cfg
      obtain ⟨drawsP, iP, resP, cfgP⟩ := placeByte_frame cmd len u
      cases ends : endsLoop cmd len u with
      | true =>
        rw [keepByte_last ends]
        refine ⟨.inl (resP.trans res), drawsP.trans popped, ?_, fun _ => (placeByte_last atU ends).trans (by rw [cfg])⟩
        rw [iP, show u.eng.i = s.eng.i from (congrArg Engine.i eng).trans same.i]; exact index
      | false =>
        rw [keepByte_next ends]
        have next := placeByte_next atU ends
        have more : left ≠ 0 := by
          rintro rfl
          simp only [endsLoop, Bool.or_eq_false_iff, decide_eq_false_iff_not] at ends
          have := atU.count
          omega
        obtain ⟨resL, drawsL, indexL, bytesL⟩ := ih more next
        refine ⟨resL, drawsL.trans (drawsP.trans popped), indexL, fun h => (bytesL h).trans ?_⟩
        rw [setSlot_cfg, cfgP, cfg]
    · rw [if_neg (by rw [returnedOk_iff, late]; exact Result.noConfusion)]
      exact ⟨.inr late, draws, by rw [same.i]; exact index, fun ok => Result.noConfusion (late.symm.trans ok)⟩

/-! D7 to D9. -/

theorem concludeRead_ok (ok : s.eng.res = .ok) : concludeRead s = returnOk (goto .d9 s) := if_pos ((returnedOk_iff s).mpr ok)
theorem concludeRead_failed {k : ErrKind} (failed : s.eng.res = .err k) : concludeRead s = s :=
  if_neg (by rw [returnedOk_iff, failed]; exact Result.noConfusion)

/-- The idle check of D8. -/
def readCheck (len : Half) (s : State) : State := call .d8 waitIdle (goto .d8 (checkLength len s))

theorem checkLength_log (len : Half) (s : State) : Path [.log] s (checkLength len s) := by
  unfold checkLength; split
  · exact .work rfl
  · exact (Path.edit s (goto .d7 s) rfl).trans (.does (k := .log) (by decide) ⟨_, rfl⟩)

theorem readCheck_path (len : Half) (s : State) : Path [.log, .read .status2, .delay] s (readCheck len s) :=
  ((checkLength_log len s).mono (by decide)).trans
    ((Path.edit (checkLength len s) (goto .d8 (checkLength len s)) rfl).trans
      ((call_path .d8 waitIdle_path (goto .d8 (checkLength len s))).mono (by decide)))

theorem readCheck_res (len : Half) (s : State) :
    (readCheck len s).eng.res = .ok ∨ (readCheck len s).eng.res = .err .busBusy := waitIdle_res _

theorem idleLoop_reader (n : Nat) (s : State) : SameReader s (idleLoop n s) := by
  induction n generalizing s with
  | zero => exact ⟨rfl, rfl, rfl, rfl, rfl⟩
  | succ n ih =>
    have poll : SameReader s (idlePoll s) := by constructor <;> simp [idlePoll]
    cases idle : idleFlag s with
    | true => rw [idleLoop_idle n idle]; exact ⟨poll.i, poll.rcvd, poll.rsp, poll.wfcs, poll.rfcs⟩
    | false =>
      rw [idleLoop_busy n idle]
      have round : SameReader s (idleDelay (goto .i2 (idlePoll s))) := by
        constructor <;> simp [idleDelay, idleCount, idleTest, countAttempt, setAttempts, idlePoll]
      exact round.trans (ih _)

theorem checkLength_eng (len : Half) (s : State) : (checkLength len s).eng = { s.eng with phase := .at .d7 } := by
  unfold checkLength; split <;> rfl

theorem readCheck_reader (len : Half) (s : State) : SameReader s (readCheck len s) := by
  have idle := idleLoop_reader (checkLength len s).cfg.idleAttempts
    (loadIdleAttempts (enter .d8 (goto .d8 (checkLength len s))))
  have eng := checkLength_eng len s
  exact ⟨idle.i.trans (congrArg Engine.i eng :), idle.rcvd.trans (congrArg Engine.rcvd eng :),
    idle.rsp.trans (congrArg Engine.rsp eng :), idle.wfcs.trans (congrArg Engine.wfcs eng :),
    idle.rfcs.trans (congrArg Engine.rfcs eng :)⟩

/-- How READ ends under any schedule. -/
structure ReadEnds (cmd : Byte) (len : Half) (s t : State) : Prop where
  res : t.eng.res = .ok ∨ t.eng.res = .err .timeout ∨ t.eng.res = .err .busBusy
  draws : t.draws = s.draws
  index : t.eng.i ≤ len.toNat + 1
  bytes : t.eng.res = .ok → t.eng.rsp.bytes.length = if cmd = s.cfg.pingCmd then 1 else len.toNat

theorem read_ends (len : Half) (cmd : Byte) (s : State) : ReadEnds cmd len s (read len cmd s) := by
  have slots : SlotsEnd cmd len (setSlot 0 (startRead s)) (readSlots cmd len (startRead s)) :=
    slotLoop_ends cmd len (Nat.succ_ne_zero _) ⟨Nat.zero_add _, fun _ => rfl, fun h => absurd h (Nat.lt_irrefl 0)⟩
  obtain ⟨res, draws, index, bytes⟩ := slots
  generalize hu : readSlots cmd len (startRead s) = u at res draws index bytes
  rw [read, hu, afterSlots]
  rcases res with ok | late
  · rw [if_pos ((returnedOk_iff u).mpr ok)]
    have same := readCheck_reader len u
    have draws' : (readCheck len u).draws = s.draws := ((readCheck_path len u).kept.draws (by decide)).trans draws
    have length : (readCheck len u).eng.rsp.bytes.length = if cmd = s.cfg.pingCmd then 1 else len.toNat := by
      rw [same.rsp]; exact bytes ok
    have index' : (readCheck len u).eng.i ≤ len.toNat + 1 := by rw [same.i]; exact index
    change ReadEnds cmd len s (concludeRead (readCheck len u))
    rcases readCheck_res len u with idle | busy
    · rw [concludeRead_ok idle]
      exact ⟨.inl rfl, draws', index', fun _ => length⟩
    · rw [concludeRead_failed busy]
      exact ⟨.inr (.inr busy), draws', index', fun _ => length⟩
  · rw [if_neg (by rw [returnedOk_iff, late]; exact Result.noConfusion)]
    exact ⟨.inr (.inl late), draws, index, fun ok => Result.noConfusion (late.symm.trans ok)⟩

theorem exec_read (idle : s.eng.phase = .idle) :
    exec .read s = .next (toIdle (settleResponse (readOfRequest s))) := runOperation_total (body := readOfRequest) idle

/-- Settles O40: `read_ends` and a path that only reads. -/
theorem readUnderAnySchedule : Obligations.ReadUnderAnySchedule := by
  intro s idle
  have path : Path readKinds s (readOfRequest s) := read_path _ _ s
  have kept := path.kept
  obtain ⟨h, history, emits⟩ := path.grows
  have ends : ReadEnds s.eng.req.commandCode s.eng.req.expectedLength s (readOfRequest s) := read_ends _ _ s
  obtain ⟨res, draws, index, bytes⟩ := ends
  obtain ⟨pd, rst, frst⟩ := kept.power (by decide)
  obtain ⟨low, high⟩ := kept.timing (by decide)
  refine ⟨_, h, exec_read idle, ?_⟩
  rw [endInternal_eq]
  refine ⟨history, fun x hx => (emits x hx).noWrite (by simp [readKinds]), res, congrArg (· + _) draws, index, fun ok => ?_,
    kept.tocnt (by decide), kept.bitrate (by decide), kept.req (by decide), rfl, path.cfg, pd, rst, frst, low, high⟩
  change (if _ then _ else _ : Response).bytes.length = _
  rw [if_pos ok]
  exact bytes ok

end Sys2Proof.Machine
end

section
/-! PROOF. READ by the engine alone (45_reader.md R155 to R159): slot by slot, the bytes it pops and where they go. -/

namespace Sys2Proof.Machine

variable {s : State}

/-! The engine alone, the response aside. -/

/-- The state with another response. -/
def withRsp (r : Response) (s : State) : State := { s with eng := { s.eng with rsp := r } }

/-- From `s` to `t` nobody else moved: the controller is `k`, the events `h` were added, the response aside nothing else changed. -/
def Got (s t : State) (k : Controller) (h : List Event) : Prop := Did 0 (withRsp t.eng.rsp s) t k h

theorem Did.withRsp {n : Nat} {t : State} {k : Controller} {h : List Event} (d : Did n s t k h) (r : Response) :
    Did n (withRsp r s) (withRsp r t) k h := by
  have set (a : State) : shared (Machine.withRsp r a) = Machine.withRsp r (shared a) := rfl
  unfold Did at d ⊢
  rw [set, d]; rfl

namespace Got

variable {t u : State} {k k' : Controller} {h h' : List Event}

theorem of_did {n : Nat} (quiet : Quiet s) (d : Did n s t k h) : Got s t k h := by
  have same : withRsp t.eng.rsp s = s := by rw [d.rsp]; rfl
  rw [Got, same]
  exact d.of_quiet quiet

/-- Internal work, and a new response. -/
theorem work (same : shared t = shared (withRsp t.eng.rsp s)) : Got s t s.ctl [] := Did.work (s := withRsp t.eng.rsp s) same

theorem trans (g : Got s t k h) (g' : Got t u k' h') : Got s u k' (h' ++ h) :=
  (Did.withRsp g u.eng.rsp).trans g'

theorem after_work (same : shared t = shared s) (g : Got t u k h) : Got s u k h := by
  refine Did.after_work (t := withRsp u.eng.rsp t) ?_ g
  have set (a : State) : shared (withRsp u.eng.rsp a) = withRsp u.eng.rsp (shared a) := rfl
  rw [set, set, same]

theorem did (g : Got s t k h) : Did 0 (withRsp t.eng.rsp s) t k h := g

theorem ctl (g : Got s t k h) : t.ctl = k := g.did.ctl
theorem history (g : Got s t k h) : t.history = h ++ s.history := g.did.history
theorem cfg (g : Got s t k h) : t.cfg = s.cfg := g.did.cfg
theorem busIdle (g : Got s t k h) : t.busIdle = s.busIdle := g.did.busIdle
theorem results (g : Got s t k h) : t.results = s.results := g.did.results
theorem draws (g : Got s t k h) : t.draws = s.draws := g.did.draws
theorem bitrate (g : Got s t k h) : t.eng.bitrate = s.eng.bitrate := g.did.bitrate
theorem tocnt (g : Got s t k h) : t.eng.tocnt = s.eng.tocnt := g.did.tocnt
theorem req (g : Got s t k h) : t.eng.req = s.eng.req := g.did.req
theorem quiet (g : Got s t k h) (q : Quiet s) : Quiet t := g.did.quiet q
theorem outside (g : Got s t k h) (q : Quiet s) : SameOutside s t :=
  g.did.outside (s := withRsp t.eng.rsp s) q

end Got

/-- An event of the reader's loop: a read by the engine, or a delay. -/
def isPoll : Event → Bool
  | .rd .eng _ _ => true
  | .delayUs _ => true
  | _ => false

/-! One slot. -/

theorem loadData_did {b : Byte} {q : List Byte} (fifo : s.ctl.rfifo = b :: q) (a : Alone 1 s) :
    Did 1 s (loadData s) { s.ctl with rfifo := q } [.rd .eng .rdData b] := by
  have read : regRead .eng .rdData s = { s with
      ctl := { s.ctl with rfifo := q }, rdata := b, history := .rd .eng .rdData b :: s.history } := by
    rw [regRead, readReg, readRdData_cons fifo]; rfl
  unfold Did loadData
  rw [read, others_alone (by exact a)]; rfl

theorem rxPoll_did (a : Alone 1 s) : Did 1 s (rxPoll s) s.ctl [.rd .eng .status2 (status2Byte s)] :=
  (loadStatus_did (r := .status2) (s := goto .d3 s) rfl a).after_work rfl

/-- A slot whose byte is there: it is popped into `b`. -/
structure SlotTaken (s : State) (x : Byte) (q : List Byte) (u : State) : Prop where
  got : Got s u { s.ctl with rfifo := q } [.rd .eng .rdData x, .rd .eng .status2 (status2Byte s)]
  b : u.eng.b = x
  reader : SameReader s u
  res : u.eng.res = .ok

theorem slot_taken {x : Byte} {q : List Byte} (quiet : Quiet s) (attempts : 1 ≤ s.cfg.rxPollAttempts)
    (fifo : s.ctl.rfifo = x :: q) : (awaitSlot s).eng.res = .ok ∧ SlotTaken s x q (popSlot (awaitSlot s)) := by
  obtain ⟨n, count⟩ := Nat.exists_eq_add_of_le' attempts
  have there : s.ctl.rfifo ≠ [] := by rw [fifo]; exact List.cons_ne_nil _ _
  have await : awaitSlot s = returnOk (goto .d4 (rxPoll (loadRxAttempts s))) := by
    rw [awaitSlot, count]; exact slotWait_there (s := loadRxAttempts s) n there
  have poll := ((rxPoll_did (s := loadRxAttempts s) (alone_of_quiet 1 quiet)).after_work (s := s) rfl).then_work
    (u := returnOk (goto .d4 (rxPoll (loadRxAttempts s)))) rfl
  rw [← await] at poll
  have fifo' : (goto .d5 (awaitSlot s)).ctl.rfifo = x :: q := by rw [goto_ctl, poll.ctl]; exact fifo
  have pop := (loadData_did (s := goto .d5 (awaitSlot s)) fifo' (alone_of_quiet 1 (poll.quiet quiet))).after_work
    (s := awaitSlot s) rfl
  rw [goto_ctl, poll.ctl] at pop
  have eng := popSlot_eng (awaitSlot s)
  rw [readRdData_cons fifo'] at eng
  obtain ⟨-, same⟩ := awaitSlot_ends s
  have ok : (awaitSlot s).eng.res = .ok := by rw [await]; rfl
  refine ⟨ok, .of_did quiet (poll.trans pop), by rw [eng], ?_, by rw [eng]; exact ok⟩
  exact ⟨by rw [eng]; exact same.i, by rw [eng]; exact same.rcvd, by rw [eng]; exact same.rsp, by rw [eng]; exact same.wfcs,
    by rw [eng]; exact same.rfcs⟩

theorem takeByte_ok {cmd : Byte} {len : Half} {again : State → State} (ok : s.eng.res = .ok) :
    takeByte cmd len again s = keepByte cmd len again (popSlot s) := if_pos ((returnedOk_iff s).mpr ok)

/-- D6 is internal work and the response. -/
theorem placeByte_got (cmd : Byte) (len : Half) (s : State) : Got s (placeByte cmd len s) s.ctl [] := by
  unfold placeByte; split
  · split <;> exact .work rfl
  · split <;> exact .work rfl

/-! The slots of a response with a payload. -/

variable {cmd : Byte} {len : Half} {again : State → State}

/-- D6 of slot 0, not a ping, and the next slot. -/
def firstKept (s : State) : State := setSlot 1 (keepWriteChecksum (goto .d6 s))

/-- D6 of slot 0, not a ping. -/
theorem keepByte_first (zero : s.eng.i = 0) (other : cmd ≠ s.cfg.pingCmd) :
    keepByte cmd len again s = again (firstKept s) := by
  have place : placeByte cmd len (goto .d6 s) = keepWriteChecksum (goto .d6 s) := by
    rw [placeByte, if_pos (show (goto .d6 s).eng.i = 0 from zero), if_neg (show cmd ≠ (goto .d6 s).cfg.pingCmd from other)]
  rw [keepByte_next (by simp [endsLoop, zero, other]), place, show (goto .d6 s).eng.i + 1 = 1 from congrArg (· + 1) zero]; rfl

/-- D6 of a payload slot, and the next slot. -/
def payloadKept (s : State) : State := setSlot (s.eng.i + 1) (keepPayload (goto .d6 s))

/-- D6 of a payload slot. -/
theorem keepByte_payload (pos : s.eng.i ≠ 0) (more : s.eng.i < len.toNat + 1) :
    keepByte cmd len again s = again (payloadKept s) := by
  have place : placeByte cmd len (goto .d6 s) = keepPayload (goto .d6 s) := by
    rw [placeByte, if_neg (show (goto .d6 s).eng.i ≠ 0 from pos),
      if_neg (show (goto .d6 s).eng.i ≠ len.toNat + 1 from Nat.ne_of_lt more)]
  rw [keepByte_next (by simp [endsLoop, pos]; omega), place]; rfl

/-- D6 of the last slot. -/
theorem keepByte_final (final : s.eng.i = len.toNat + 1) :
    keepByte cmd len again s = keepReadChecksum (goto .d6 s) := by
  have place : placeByte cmd len (goto .d6 s) = keepReadChecksum (goto .d6 s) := by
    rw [placeByte, if_neg (show (goto .d6 s).eng.i ≠ 0 by rw [goto_eng, final]; exact Nat.succ_ne_zero _),
      if_pos (show (goto .d6 s).eng.i = len.toNat + 1 from final)]
  rw [keepByte_last (by simp [endsLoop, final]), place]

/-- What the slots after slot 0 read: the payload, then the receive-side checksum. -/
structure PayloadRead (p : List Byte) (r : Byte) (rest : List Byte) (s t : State) : Prop where
  got : ∃ h, Got s t { s.ctl with rfifo := rest } h ∧ ∀ y ∈ h, isPoll y = true
  res : t.eng.res = .ok
  rsp : t.eng.rsp = { s.eng.rsp with bytes := s.eng.rsp.bytes ++ p, readChecksum := r }
  rcvd : t.eng.rcvd = s.eng.rcvd + BitVec.ofNat 16 p.length
  wfcs : t.eng.wfcs = s.eng.wfcs
  rfcs : t.eng.rfcs = r

theorem slotLoop_payload {p rest : List Byte} {r : Byte} (quiet : Quiet s) (attempts : 1 ≤ s.cfg.rxPollAttempts)
    (fifo : s.ctl.rfifo = p ++ r :: rest) (pos : s.eng.i ≠ 0) (count : s.eng.i + p.length = len.toNat + 1) :
    PayloadRead p r rest s (slotLoop cmd len (p.length + 1) s) := by
  induction p generalizing s with
  | nil =>
    obtain ⟨ok, taken⟩ := slot_taken quiet attempts fifo
    have final : (popSlot (awaitSlot s)).eng.i = len.toNat + 1 := taken.reader.i.trans count
    have place : Got (popSlot (awaitSlot s)) (keepReadChecksum (goto .d6 (popSlot (awaitSlot s)))) _ [] := .work rfl
    rw [List.length_nil, slotLoop, takeByte_ok ok, keepByte_final final]
    rw [taken.got.ctl] at place
    refine ⟨⟨_, taken.got.trans place, by simp [isPoll]⟩, taken.res, ?_, ?_, taken.reader.wfcs, taken.b⟩
    · change { (popSlot (awaitSlot s)).eng.rsp with readChecksum := (popSlot (awaitSlot s)).eng.b } = _
      rw [taken.reader.rsp, taken.b, List.append_nil]
    · exact taken.reader.rcvd.trans (BitVec.add_zero _).symm
  | cons x p ih =>
    obtain ⟨ok, taken⟩ := slot_taken quiet attempts fifo
    have more : s.eng.i < len.toNat + 1 := by rw [List.length_cons] at count; omega
    obtain ⟨pos', more'⟩ : (popSlot (awaitSlot s)).eng.i ≠ 0 ∧ (popSlot (awaitSlot s)).eng.i < len.toNat + 1 := by
      rw [taken.reader.i]; exact ⟨pos, more⟩
    have place : Got (popSlot (awaitSlot s)) (payloadKept (popSlot (awaitSlot s))) _ [] := .work rfl
    have slot := taken.got.trans (taken.got.ctl ▸ place)
    have next := ih (s := payloadKept (popSlot (awaitSlot s))) (slot.quiet quiet) (by rw [slot.cfg]; exact attempts)
      (by rw [slot.ctl]; rfl) (Nat.succ_ne_zero _) (by
        change (popSlot (awaitSlot s)).eng.i + 1 + p.length = _
        rw [taken.reader.i, ← count, List.length_cons]; omega)
    obtain ⟨⟨h, got, polls⟩, res, rsp, rcvd, wfcs, rfcs⟩ := next
    rw [List.length_cons, slotLoop, takeByte_ok ok, keepByte_payload pos' more']
    rw [slot.ctl] at got
    refine ⟨⟨_, slot.trans got, ?_⟩, res, ?_, ?_, wfcs.trans taken.reader.wfcs, rfcs⟩
    · exact List.forall_mem_append.mpr ⟨polls, by simp [isPoll]⟩
    · rw [rsp]
      change { (popSlot (awaitSlot s)).eng.rsp with
        bytes := (popSlot (awaitSlot s)).eng.rsp.bytes ++ [(popSlot (awaitSlot s)).eng.b] ++ p, readChecksum := r } = _
      rw [taken.reader.rsp, taken.b, List.append_assoc, List.singleton_append]
    · rw [rcvd]
      change (popSlot (awaitSlot s)).eng.rcvd + 1 + BitVec.ofNat 16 p.length = _
      rw [taken.reader.rcvd, List.length_cons, Nat.add_comm, BitVec.ofNat_add, BitVec.add_assoc]; rfl

/-! D7 to D9 at an idle wire. -/

/-- D7 by the engine alone. -/
theorem checkLength_did (len : Half) (s : State) : Did 0 s (checkLength len s) s.ctl
    (if s.eng.rcvd = len then [] else [.log (.lengthMismatch s.eng.rcvd len)]) := by
  unfold checkLength; split
  · exact .work rfl
  · exact (logRecord_did _ (goto .d7 s)).after_work rfl

theorem concludeRead_shared (ok : s.eng.res = .ok) : shared (concludeRead s) = shared s := by rw [concludeRead_ok ok]; rfl

/-- D7 to D9 by the engine alone, at an idle wire. -/
theorem readFromD7_did (quiet : Quiet s) (attempts : 1 ≤ s.cfg.idleAttempts) (idle : idleFlag s = true) :
    Did 1 s (readFromD7 len s) s.ctl (.rd .eng .status2 (status2Byte s) ::
      if s.eng.rcvd = len then [] else [.log (.lengthMismatch s.eng.rcvd len)]) ∧
    (readFromD7 len s).eng.res = .ok ∧ SameReader s (readFromD7 len s) := by
  have length := checkLength_did len s
  have flag : idleFlag (checkLength len s) = true := by rw [idleFlag, length.ctl, length.busIdle]; exact idle
  have byte : status2Byte (checkLength len s) = status2Byte s := by
    exact status2Byte_congr length.cfg (congrArg _ length.ctl) (congrArg _ length.ctl) (congrArg _ length.ctl) length.busIdle
  obtain ⟨check, ok⟩ := waitIdle_idle_did (s := enter .d8 (goto .d8 (checkLength len s)))
    (by change 1 ≤ (checkLength len s).cfg.idleAttempts; rw [length.cfg]; exact attempts) flag
    (alone_of_quiet 1 (length.quiet quiet))
  have ok : (readCheck len s).eng.res = .ok := ok
  have check : Did 1 (checkLength len s) (readCheck len s) (checkLength len s).ctl
      [.rd .eng .status2 (status2Byte (checkLength len s))] := check.call.after_work rfl
  rw [length.ctl, byte] at check
  have reader := readCheck_reader len s
  change Did 1 s (concludeRead (readCheck len s)) _ _ ∧ (concludeRead (readCheck len s)).eng.res = .ok ∧
    SameReader s (concludeRead (readCheck len s))
  exact ⟨(length.trans check).then_work (concludeRead_shared ok), by rw [concludeRead_ok ok]; rfl, by
    rw [concludeRead_ok ok]; exact ⟨reader.i, reader.rcvd, reader.rsp, reader.wfcs, reader.rfcs⟩⟩

/-- What READ has read when it ends in `Ok`: the events are polls, pops and records of `logs`; `rest` stays in the FIFO. -/
structure ReadOk (rsp : Response) (rcvd : Half) (rest : List Byte) (logs : List LogRecord) (s t : State) : Prop where
  got : ∃ h, Got s t { s.ctl with rfifo := rest } h ∧ (∀ y ∈ h, isPoll y = true ∨ ∃ x ∈ logs, y = .log x) ∧
    ∀ x ∈ logs, Event.log x ∈ h
  res : t.eng.res = .ok
  rsp : t.eng.rsp = rsp
  rcvd : t.eng.rcvd = rcvd

/-- The slots and then D7 to D9. -/
theorem readOk_of_slots {t : State} {h : List Event} {rest : List Byte} (quiet : Quiet s) (attempts : 1 ≤ s.cfg.idleAttempts)
    (idle : idleFlag s = true) (slots : readSlots cmd len (startRead s) = t) (got : Got s t { s.ctl with rfifo := rest } h)
    (polls : ∀ y ∈ h, isPoll y = true) (ok : t.eng.res = .ok) :
    ReadOk t.eng.rsp t.eng.rcvd rest (if t.eng.rcvd = len then [] else [.lengthMismatch t.eng.rcvd len]) s
      (read len cmd s) ∧ SameReader t (read len cmd s) := by
  have same : read len cmd s = readFromD7 len t := by
    rw [read, slots, afterSlots, if_pos ((returnedOk_iff t).mpr ok)]
  have idle' : idleFlag t = true := by rw [idleFlag, got.ctl, got.busIdle]; exact idle
  have quiet' := got.quiet quiet
  obtain ⟨did, res, reader⟩ := readFromD7_did (len := len) quiet' (by rw [got.cfg]; exact attempts) idle'
  have all := got.trans (.of_did quiet' did)
  rw [got.ctl] at all
  rw [same]
  refine ⟨⟨⟨_, all, ?_, ?_⟩, res, reader.rsp, reader.rcvd⟩, reader⟩
  · refine List.forall_mem_append.mpr ⟨?_, fun y mem => .inl (polls y mem)⟩
    split <;> simp [isPoll]
  · split <;> simp

/-- READ of a whole response that is there, not a ping. -/
theorem read_payload {w r : Byte} {p rest : List Byte} (quiet : Quiet s) (attempts : 1 ≤ s.cfg.rxPollAttempts)
    (idleAttempts : 1 ≤ s.cfg.idleAttempts) (idle : idleFlag s = true) (other : cmd ≠ s.cfg.pingCmd)
    (fifo : s.ctl.rfifo = w :: (p ++ r :: rest)) (length : p.length = len.toNat) :
    ReadOk { bytes := p, writeChecksum := w, readChecksum := r } len rest [] s (read len cmd s) ∧
    (read len cmd s).eng.wfcs = w ∧ (read len cmd s).eng.rfcs = r := by
  let start := setSlot 0 (startRead s)
  have began : Got s start s.ctl [] := .work rfl
  obtain ⟨ok, taken⟩ := slot_taken (s := start) quiet attempts fifo
  let u := popSlot (awaitSlot start)
  have kept : Got u (firstKept u) u.ctl [] := .work rfl
  have slot := began.trans (taken.got.trans (taken.got.ctl ▸ kept))
  obtain ⟨⟨h, got, polls⟩, res, rsp, rcvd, wfcs, rfcs⟩ := slotLoop_payload (cmd := cmd) (len := len) (s := firstKept u)
    (slot.quiet quiet) (by rw [slot.cfg]; exact attempts) (by rw [slot.ctl]) (Nat.succ_ne_zero 0)
    (by rw [length]; exact Nat.add_comm 1 _)
  rw [slot.ctl] at got
  have zero : u.eng.i = 0 := taken.reader.i
  have other' : cmd ≠ u.cfg.pingCmd := by rw [taken.got.cfg]; exact other
  have slots : readSlots cmd len (startRead s) = slotLoop cmd len (p.length + 1) (firstKept u) := by
    rw [readSlots, slotCount, show len.toNat + fcsLen = (p.length + 1) + 1 from congrArg (· + 2) length.symm, slotLoop, takeByte_ok ok,
      keepByte_first zero other']
  obtain ⟨done, reader⟩ := readOk_of_slots quiet idleAttempts idle slots (slot.trans got)
    (List.forall_mem_append.mpr ⟨polls, by simp [isPoll]⟩) res
  have count : (slotLoop cmd len (p.length + 1) (firstKept u)).eng.rcvd = len := by
    rw [rcvd]
    change u.eng.rcvd + _ = _
    rw [taken.reader.rcvd, length, BitVec.ofNat_toNat, BitVec.setWidth_eq]
    exact BitVec.zero_add _
  have response : (slotLoop cmd len (p.length + 1) (firstKept u)).eng.rsp =
      { bytes := p, writeChecksum := w, readChecksum := r } := by
    rw [rsp]
    change { u.eng.rsp with bytes := u.eng.rsp.bytes ++ p, writeChecksum := u.eng.b, readChecksum := r } = (_ : Response)
    rw [taken.reader.rsp, taken.b]; rfl
  rw [count, response, if_pos rfl] at done
  exact ⟨done, reader.wfcs.trans (wfcs.trans taken.b), reader.rfcs.trans rfcs⟩

/-- Settles O37: `read_payload`. -/
theorem readReturnsThePayload : Obligations.ReadReturnsThePayload := by
  intro s w r p rest idle quiet attempts idleAttempts wire other fifo length
  obtain ⟨done, wfcs, rfcs⟩ := read_payload quiet attempts idleAttempts ((idleFlag_iff s).mpr wire) other fifo length
  obtain ⟨⟨h, got, events, -⟩, res, rsp, rcvd⟩ := done
  have outside := got.outside quiet
  refine ⟨_, h, exec_read idle, ?_⟩
  rw [readOfRequest, endInternal_eq, if_pos res, if_pos res]
  exact ⟨got.history, res, rsp, rcvd, wfcs, rfcs, got.ctl, fun x mem => by simpa [isPoll] using events _ mem, got.tocnt,
    got.bitrate, got.req, rfl, outside, got.results, got.draws⟩

/-- READ of a ping: slot 0 alone. -/
theorem read_ping {w : Byte} {rest : List Byte} (quiet : Quiet s) (attempts : 1 ≤ s.cfg.rxPollAttempts)
    (idleAttempts : 1 ≤ s.cfg.idleAttempts) (idle : idleFlag s = true) (ping : cmd = s.cfg.pingCmd)
    (fifo : s.ctl.rfifo = w :: rest) :
    ReadOk { s.eng.rsp with bytes := [w], writeChecksum := w } 0 rest (if len = 0 then [] else [.lengthMismatch 0 len]) s
      (read len cmd s) := by
  let start := setSlot 0 (startRead s)
  have began : Got s start s.ctl [] := .work rfl
  obtain ⟨ok, taken⟩ := slot_taken (s := start) quiet attempts fifo
  let u := popSlot (awaitSlot start)
  let t := keepPing (keepWriteChecksum (goto .d6 u))
  have kept : Got u t u.ctl [] := .work rfl
  have slot := began.trans (taken.got.trans (taken.got.ctl ▸ kept))
  have zero : (goto .d6 u).eng.i = 0 := taken.reader.i
  have ping' : cmd = (goto .d6 u).cfg.pingCmd := by rw [goto_cfg, taken.got.cfg]; exact ping
  have slots : readSlots cmd len (startRead s) = t := by
    have ends : endsLoop cmd len (goto .d6 u) = true := by rw [endsLoop, decide_eq_true ⟨zero, ping'⟩, Bool.true_or]
    rw [readSlots, slotCount, show len.toNat + fcsLen = (len.toNat + 1) + 1 from rfl, slotLoop, takeByte_ok ok,
      keepByte_last ends, placeByte, if_pos zero, if_pos ping']
  obtain ⟨done, -⟩ := readOk_of_slots quiet idleAttempts idle slots slot (by simp [isPoll]) taken.res
  have count : t.eng.rcvd = 0 := taken.reader.rcvd
  have response : t.eng.rsp = { s.eng.rsp with bytes := [w], writeChecksum := w } := by
    change { u.eng.rsp with bytes := [u.eng.b], writeChecksum := u.eng.b } = (_ : Response)
    rw [taken.reader.rsp, taken.b]; rfl
  rw [count, response] at done
  simp only [eq_comm (a := (0 : Half))] at done
  exact done

/-- Settles O38: `read_ping`. -/
theorem pingResponseIsTheChecksum : Obligations.PingResponseIsTheChecksum := by
  intro s w rest idle quiet attempts idleAttempts wire ping fifo
  obtain ⟨⟨h, got, events, logs⟩, res, rsp, rcvd⟩ :=
    read_ping (len := s.eng.req.expectedLength) quiet attempts idleAttempts ((idleFlag_iff s).mpr wire) ping fifo
  have outside := got.outside quiet
  refine ⟨_, h, exec_read idle, ?_⟩
  rw [readOfRequest, endInternal_eq, if_pos res, if_pos res]
  refine ⟨got.history, res, (congrArg Response.bytes rsp :), (congrArg Response.writeChecksum rsp :),
    (congrArg Response.readChecksum rsp :), rcvd, got.ctl, fun x => ⟨fun mem => ?_, fun ⟨long, same⟩ => ?_⟩, got.tocnt,
    got.bitrate, got.req, rfl, outside, got.results, got.draws⟩
  · rcases events _ mem with poll | ⟨y, mem', same⟩
    · cases poll
    · cases same
      split at mem' <;> simp_all
  · subst same
    exact logs _ (by rw [if_neg long]; exact List.mem_singleton.mpr rfl)

/-! A response that is too short. -/

theorem rxDelay_did (a : Alone 1 s) : Did 1 s (rxDelay s) s.ctl [.delayUs s.cfg.rxPollUs] :=
  (delayUs_did s.cfg.rxPollUs a).then_work rfl

/-- One round of the wait for a byte that is not there. -/
theorem rxRound_did (a : Alone 2 s) : Did 2 s (rxDelay (goto .d4 (rxPoll s))) s.ctl
    [.delayUs s.cfg.rxPollUs, .rd .eng .status2 (status2Byte s)] := by
  have poll := (rxPoll_did (a.of_le (by decide))).then_work (u := goto .d4 (rxPoll s)) rfl
  have delay := rxDelay_did (s := goto .d4 (rxPoll s)) (poll.alone (m := 1) a)
  rw [poll.ctl, poll.cfg] at delay
  exact poll.trans delay

/-- The engine alone waits to the end of its attempts. -/
theorem slotWait_exhausts {n : Nat} (none : s.ctl.rfifo = []) (a : Alone (2 * n) s) :
    ∃ h, Did (2 * n) s (slotWait n s) s.ctl h ∧ h.length = 2 * n ∧ (slotWait n s).eng.res = .err .timeout := by
  induction n generalizing s with
  | zero => exact ⟨[], .work rfl, rfl, rfl⟩
  | succ n ih =>
    rw [Nat.mul_succ, Nat.add_comm] at a ⊢
    have round := rxRound_did (a.of_le (by omega))
    obtain ⟨h, rest, length, res⟩ := ih (by rw [round.ctl]; exact none) (round.alone a)
    rw [round.ctl] at rest
    rw [slotWait_empty n none]
    exact ⟨_, round.trans rest, by rw [List.length_append, length]; exact Nat.add_comm _ _, res⟩

/-- The slots of a response that ends before the last one: every byte is popped, and the next wait expires. -/
theorem slotLoop_short {left : Nat} (quiet : Quiet s) (attempts : 1 ≤ s.cfg.rxPollAttempts) (other : cmd ≠ s.cfg.pingCmd)
    (short : s.ctl.rfifo.length < left) (count : s.eng.i + left = len.toNat + 2) :
    ∃ h, Got s (slotLoop cmd len left s) { s.ctl with rfifo := [] } h ∧
      h.length = 2 * s.ctl.rfifo.length + 2 * s.cfg.rxPollAttempts ∧ (slotLoop cmd len left s).eng.res = .err .timeout := by
  obtain ⟨left, rfl⟩ := Nat.exists_eq_succ_of_ne_zero (Nat.ne_of_gt (Nat.zero_lt_of_lt short))
  generalize hq : s.ctl.rfifo = q at short ⊢
  induction q generalizing s left with
  | nil =>
    obtain ⟨h, wait, length, late⟩ := slotWait_exhausts (n := s.cfg.rxPollAttempts) (s := loadRxAttempts s) hq
      (alone_of_quiet _ quiet)
    have late' : ¬ returnedOk (awaitSlot s) := by
      rw [returnedOk_iff, awaitSlot, late]; exact Result.noConfusion
    have none : { s.ctl with rfifo := [] } = s.ctl := by rw [← hq]
    rw [slotLoop, takeByte, if_neg late', none]
    exact ⟨h, .of_did quiet (wait.after_work rfl), by rw [length]; exact (Nat.zero_add _).symm, late⟩
  | cons x q ih =>
    obtain ⟨ok, taken⟩ := slot_taken quiet attempts hq
    let u := popSlot (awaitSlot s)
    have i : (goto .d6 u).eng.i = s.eng.i := taken.reader.i
    have other' : cmd ≠ (goto .d6 u).cfg.pingCmd := by rw [goto_cfg, taken.got.cfg]; exact other
    have goes : endsLoop cmd len (goto .d6 u) = false := by
      rw [List.length_cons] at short
      rw [endsLoop, decide_eq_false fun h => other' h.2, Bool.false_or, decide_eq_false (by rw [i]; omega)]
    let t := setSlot ((goto .d6 u).eng.i + 1) (placeByte cmd len (goto .d6 u))
    have place : Got u (placeByte cmd len (goto .d6 u)) u.ctl [] := (placeByte_got cmd len (goto .d6 u)).after_work rfl
    have next : Got (placeByte cmd len (goto .d6 u)) t _ [] := .work rfl
    have slot := taken.got.trans (taken.got.ctl ▸ place.trans (place.ctl ▸ next))
    obtain ⟨left, rfl⟩ : ∃ m, left = m + 1 := Nat.exists_eq_succ_of_ne_zero fun h => by rw [h, List.length_cons] at short; omega
    obtain ⟨h, got, length, late⟩ := ih (s := t) (slot.quiet quiet) (by rw [slot.cfg]; exact attempts)
      (by rw [slot.cfg]; exact other) left (by change (goto .d6 u).eng.i + 1 + _ = _; omega) (by rw [slot.ctl])
      (Nat.lt_of_succ_lt_succ short)
    rw [slotLoop, takeByte_ok ok, keepByte_next goes]
    rw [slot.ctl] at got
    rw [slot.cfg] at length
    refine ⟨_, slot.trans got, ?_, late⟩
    rw [List.length_append, length, List.length_cons]
    simp only [List.length_append, List.length_cons, List.length_nil]
    omega

/-- Settles O39: `slotLoop_short`; READ ends there, and the response is a free value. -/
theorem readSlotTimesOut : Obligations.ReadSlotTimesOut := by
  intro s idle quiet attempts other short
  let start := setSlot 0 (startRead s)
  have began : Got s start s.ctl [] := .work rfl
  obtain ⟨h, got, length, late⟩ := slotLoop_short (s := start) (len := s.eng.req.expectedLength)
    (left := slotCount s.eng.req.expectedLength) quiet attempts other short (Nat.zero_add _)
  have late : (readSlots s.eng.req.commandCode s.eng.req.expectedLength (startRead s)).eng.res = .err .timeout := late
  have ended : readOfRequest s = readSlots s.eng.req.commandCode s.eng.req.expectedLength (startRead s) :=
    if_neg (by rw [returnedOk_iff, late]; exact Result.noConfusion)
  have all : Got s (readSlots s.eng.req.commandCode s.eng.req.expectedLength (startRead s)) _ _ := began.trans got
  have outside := all.outside quiet
  refine ⟨_, h ++ [], exec_read idle, ?_⟩
  rw [ended, endInternal_eq, if_neg (by rw [late]; exact Result.noConfusion), if_neg (by rw [late]; exact Result.noConfusion)]
  refine ⟨all.history, late, all.ctl, by rw [List.append_nil]; exact length, all.tocnt, all.bitrate, all.req, ?_,
    congrArg (· + 1) all.draws, rfl, outside, all.results⟩
  exact congrArg Config.freeResponse all.draws

end Sys2Proof.Machine
end

section
/-! PROOF. TRANSFER of a well-formed request under any schedule (47_public_ops.md R190, 60_exceptions.md R236, R237): WRITE, READ and FINISH, the first error ending it. -/

namespace Sys2Proof.Machine

variable {s : State}

/-! T3 to T5. -/

theorem readsResponse_false {p : Params} {r : Request} (none : readsResponse p r = false) :
    r.expectedLength = 0 ∧ r.commandCode ≠ p.pingCmd := by simpa [readsResponse] using none

theorem readPhase_reads (reads : readsResponse s.cfg s.eng.req = true) : readPhase s = call .t3 readOfRequest (goto .t3 s) :=
  if_pos reads

theorem readPhase_skips (none : readsResponse s.cfg s.eng.req = false) : readPhase s = goto .t3 s :=
  if_neg (by rw [none]; exact Bool.noConfusion)

/-- The length of the response that TRANSFER returns. -/
def responseLength (p : Params) (r : Request) : Nat := if r.commandCode = p.pingCmd then 1 else r.expectedLength.toNat

/-- T3 after a WRITE that succeeded. -/
theorem readPhase_ends (ok : s.eng.res = .ok) (empty : s.eng.rsp.bytes = []) :
    ((readPhase s).eng.res = .ok ∧ (readPhase s).eng.rsp.bytes.length = responseLength s.cfg s.eng.req) ∨
    (readPhase s).eng.res = .err .timeout ∨ (readPhase s).eng.res = .err .busBusy := by
  cases reads : readsResponse s.cfg s.eng.req with
  | true =>
    rw [readPhase_reads reads]
    have ends : ReadEnds s.eng.req.commandCode s.eng.req.expectedLength (enter .t3 (goto .t3 s))
        (readOfRequest (enter .t3 (goto .t3 s))) := read_ends _ _ _
    exact ends.res.imp (fun ok => ⟨ok, ends.bytes ok⟩) id
  | false =>
    obtain ⟨zero, other⟩ := readsResponse_false reads
    rw [readPhase_skips reads]
    refine .inl ⟨ok, ?_⟩
    rw [goto_eng, responseLength, if_neg other, zero]
    exact congrArg List.length empty

theorem afterRead_failed {k : ErrKind} (failed : s.eng.res = .err k) : afterRead s = s :=
  if_neg (by rw [returnedOk_iff, failed]; exact Result.noConfusion)

theorem afterWrite_ok (ok : s.eng.res = .ok) : afterWrite s = afterRead (readPhase s) := if_pos ((returnedOk_iff s).mpr ok)
theorem afterRead_ok (ok : s.eng.res = .ok) : afterRead s = transferFromT4 s := if_pos ((returnedOk_iff s).mpr ok)

/-- T4 and T5: FINISH returns `Ok` with the response as it was, or `IoError` with the FIFOs reset. -/
theorem transferFromT4_ends (s : State) :
    ((transferFromT4 s).eng.res = .ok ∧ (transferFromT4 s).eng.rsp = s.eng.rsp) ∨
    ((transferFromT4 s).eng.res = .err .ioError ∧ (transferFromT4 s).ctl.frst = true) := by
  obtain ⟨ok, error, -⟩ := finish_outcome (enter .t4 (goto .t4 s))
  have rsp : (finish (enter .t4 (goto .t4 s))).eng.rsp = s.eng.rsp := (finish_path _).kept.rsp (by decide)
  rw [transferFromT4, concludeTransfer]
  by_cases none : finishError (enter .t4 (goto .t4 s)) = 0
  · rw [if_pos ((returnedOk_iff (call .t4 finish (goto .t4 s))).mpr (ok none).1)]
    exact .inl ⟨rfl, rsp⟩
  · obtain ⟨res, frst, -, -⟩ := error none
    have res : (call .t4 finish (goto .t4 s)).eng.res = .err .ioError := res
    rw [if_neg (by rw [returnedOk_iff, res]; exact Result.noConfusion)]
    exact .inr ⟨res, frst⟩

/-- T3 to T5 after a WRITE that succeeded. -/
theorem afterWrite_ends (ok : s.eng.res = .ok) (empty : s.eng.rsp.bytes = []) :
    ((afterWrite s).eng.res = .ok ∧ (afterWrite s).eng.rsp.bytes.length = responseLength s.cfg s.eng.req) ∨
    ((afterWrite s).eng.res = .err .timeout ∨ (afterWrite s).eng.res = .err .busBusy) ∨
    ((afterWrite s).eng.res = .err .ioError ∧ (afterWrite s).ctl.frst = true) := by
  rw [afterWrite_ok ok]
  rcases readPhase_ends ok empty with ⟨read, length⟩ | late | busy
  · rw [afterRead_ok read]
    rcases transferFromT4_ends (readPhase s) with ⟨res, rsp⟩ | error
    · exact .inl ⟨res, by rw [rsp]; exact length⟩
    · exact .inr (.inr error)
  · rw [afterRead_failed late]; exact .inr (.inl (.inl late))
  · rw [afterRead_failed busy]; exact .inr (.inl (.inr busy))

/-- The end of a TRANSFER that succeeded: the code, the count and the response. -/
theorem endTransfer_ok (ok : s.eng.res = .ok) :
    endOperation .transfer s = { s with
      eng := { s.eng with phase := .idle }, results := s.results ++ resultCode s.cfg .ok :: responseBytes s.eng.rsp } := by
  rw [endOperation, endPublic_eq, transferResult, if_pos ((returnedOk_iff s).mpr ok), codeOf, if_pos ok, if_pos ok, ok]; rfl

/-- Settles O42: the law of `tocnt` in WRITE, then `afterWrite_ends`; the record by `writersOfTheRecord`. -/
theorem transferEndsWithOneResult : Obligations.TransferEndsWithOneResult := by
  intro r s idle formed survives
  obtain ⟨u, written⟩ := write_terminates (s := started r s) survives
  obtain ⟨law, -⟩ := write_outcome written
  have sent := write_leads _ u written
  have run := exec_transfer idle formed written
  obtain ⟨cfg, -, -, one, two, mask, -⟩ := writersOfTheRecord _ _ _ run
  obtain ⟨bitrate, req⟩ := exec_transfer_record run
  have later := afterWrite_path (leave .t2 u)
  have results : (afterWrite (leave .t2 u)).results = s.results :=
    (later.kept.results (by decide)).trans (sent.kept.results (by decide))
  have params : (afterWrite (leave .t2 u)).cfg = s.cfg := later.cfg.trans sent.cfg
  have count : (afterWrite (leave .t2 u)).eng.tocnt = u.eng.tocnt := later.kept.tocnt (by decide)
  refine ⟨_, run, ?_, req, bitrate, cfg, mask.resolve_right (by simp), one.resolve_right nofun, two.resolve_right nofun, ?_⟩
  · rw [endOperation, endPublic_eq]
  clear run cfg one two mask bitrate req
  have ends {k : ErrKind} (failed : (afterWrite (leave .t2 u)).eng.res = .err k) :
      (endOperation .transfer (afterWrite (leave .t2 u))).eng.res = .err k ∧
      (endOperation .transfer (afterWrite (leave .t2 u))).eng.tocnt = u.eng.tocnt ∧
      (endOperation .transfer (afterWrite (leave .t2 u))).results = s.results ++ [resultCode s.cfg (.err k)] := by
    rw [endTransfer_failed failed, results, params]
    exact ⟨failed, count, rfl⟩
  have stopped {k : ErrKind} (failed : u.eng.res = .err k) : (afterWrite (leave .t2 u)).eng.res = .err k := by
    rw [afterWrite_failed (s := leave .t2 u) failed]; exact failed
  rcases law with ⟨ok, zero⟩ | ⟨late, next⟩ | ⟨full | busy, same⟩
  · rcases afterWrite_ends (s := leave .t2 u) ok (congrArg Response.bytes (sent.kept.rsp (by decide)) :) with
      ⟨res, length⟩ | (late | busy) | ⟨error, frst⟩
    · rw [endTransfer_ok res, results, params]
      refine .inl ⟨res, count.trans zero, rfl, length.trans ?_⟩
      change responseLength u.cfg u.eng.req = _
      rw [sent.cfg, sent.kept.req (by decide)]; rfl
    · obtain ⟨res, tocnt, code⟩ := ends late
      exact .inr (.inr (.inr (.inl ⟨res, .inr (tocnt.trans zero), code⟩)))
    · obtain ⟨res, tocnt, code⟩ := ends busy
      exact .inr (.inr (.inl ⟨res, .inr (tocnt.trans zero), code⟩))
    · obtain ⟨res, tocnt, code⟩ := ends error
      refine .inr (.inr (.inr (.inr ⟨res, tocnt.trans zero, ?_, code⟩)))
      rw [endTransfer_failed error]; exact frst
  · obtain ⟨res, tocnt, code⟩ := ends (stopped late)
    exact .inr (.inr (.inr (.inl ⟨res, .inl (tocnt.trans next), code⟩)))
  · obtain ⟨res, tocnt, code⟩ := ends (stopped full)
    exact .inr (.inl ⟨res, tocnt.trans same, code⟩)
  · obtain ⟨res, tocnt, code⟩ := ends (stopped busy)
    exact .inr (.inr (.inl ⟨res, .inl (tocnt.trans same), code⟩))

end Sys2Proof.Machine
end

section
/-! PROOF. A well-behaved frame (48_controller_agent.md R214) during the settle delay, and the handler after it. -/

namespace Sys2Proof.Machine

variable {s : State}

/-! The frame. -/

/-- The events of bytes sent and received, newest first. -/
def sentEvents (l : List Byte) : List Event := l.reverse.map .wireTx
def receivedEvents (l : List Byte) : List Event := l.reverse.map .wireRx

theorem sentEvents_cons (b : Byte) (l : List Byte) : sentEvents (b :: l) = sentEvents l ++ [.wireTx b] := by simp [sentEvents]
theorem receivedEvents_cons (b : Byte) (l : List Byte) : receivedEvents (b :: l) = receivedEvents l ++ [.wireRx b] := by
  simp [receivedEvents]

/-- The whole write FIFO goes out. -/
theorem othersFrom_ctlTx (rest : List Turn) {l : List Byte} (run : Running s)
    (frame : s.ctl.frame = { active := true, eofDone := false }) (wfifo : s.ctl.wfifo = l) :
    othersFrom (List.replicate l.length .ctlTx ++ rest) s =
      othersFrom rest { s with ctl := { s.ctl with wfifo := [] }, history := sentEvents l ++ s.history } := by
  induction l generalizing s with
  | nil => rw [show { s.ctl with wfifo := [] } = s.ctl by rw [← wfifo]]; rfl
  | cons b l ih =>
    rw [List.length_cons, List.replicate_succ, List.cons_append, othersFrom_other (by decide), agentStep,
      ctlTx_enabled run frame wfifo, ih (by exact run) (by exact frame) rfl, sentEvents_cons, List.append_assoc]
    rfl

/-- A stream that fits is stored. -/
theorem othersFrom_ctlRx (rest : List Turn) (q : List Byte) (run : Running s) (active : s.ctl.frame.active = true)
    (room : s.ctl.rfifo.length + q.length ≤ s.cfg.rfifoDepth) :
    othersFrom (q.map .ctlRx ++ rest) s =
      othersFrom rest { s with ctl := { s.ctl with rfifo := s.ctl.rfifo ++ q }, history := receivedEvents q ++ s.history } := by
  induction q generalizing s with
  | nil => rw [List.append_nil]; rfl
  | cons b q ih =>
    rw [List.length_cons] at room
    rw [List.map_cons, List.cons_append, othersFrom_other (by simp), agentStep, ctlRx_stored b run active (by omega),
      ih (by exact run) (by exact active) (by simp; omega), receivedEvents_cons, List.append_assoc, List.append_assoc]
    rfl

/-- The controller after a frame that delivered `q`. -/
def afterFrame (q : List Byte) (k : Controller) : Controller :=
  { k with
    wfifo := [], rfifo := q, eof := true, txen := false, frame := { active := false, eofDone := true }, invalidated := false }

/-- The state after a frame that sent the whole write FIFO and delivered `q`. -/
def framePassed (q : List Byte) (s : State) : State := { s with
  ctl := afterFrame q s.ctl, busIdle := true
  history := receivedEvents q ++ (sentEvents s.ctl.wfifo ++ s.history) }

/-- A well-behaved frame of the whole write FIFO. -/
theorem othersFrom_wellBehavedFrame (rest : List Turn) {q : List Byte} (run : Running s) (txen : s.ctl.txen = true)
    (noFrame : s.ctl.frame.active = false) (rfifo : s.ctl.rfifo = []) (room : q.length ≤ s.cfg.rfifoDepth) :
    othersFrom (wellBehavedFrame s.ctl.wfifo.length q ++ rest) s = othersFrom rest (framePassed q s) := by
  simp only [wellBehavedFrame, List.cons_append, List.append_assoc, List.nil_append]
  rw [othersFrom_other (by decide), agentStep, ctlStart_enabled run txen noFrame, othersFrom_ctlTx _ ?_ ?_ ?_,
    othersFrom_other (by decide), agentStep, ctlEof_enabled ?_ ?_, othersFrom_ctlRx _ q ?_ ?_ ?_,
    othersFrom_other (by decide), agentStep, ctlEnd_enabled ?_ ?_, othersFrom_other (by simp), agentStep, envBus_enabled _ ?_]
  · simp only [rfifo, List.nil_append]
    rfl
  any_goals exact run
  any_goals rfl
  simpa [rfifo] using room

/-! The handler. -/

/-- The line is up with `WFE` enabled and an empty write FIFO. -/
theorem irqEnabled_of_wfe (mode : s.cfg.mode = .event) (mask : s.irqMask = false) (wfifo : s.ctl.wfifo = [])
    (enabled : s.ctl.intEn2.getLsbD s.cfg.layout.wfe = true) : irqEnabled s = true := by
  exact irqEnabled_of mode ((irqLine_iff s).mpr (.inr (.inr (.inr (.inl ⟨(wfeFlag_iff s).mpr wfifo, enabled⟩))))) mask

theorem othersFrom_isr {u : State} (l : List Turn) (enabled : irqEnabled s = true) (step : handlerStep s = u) :
    othersFrom (.isr :: l) s = othersFrom l u := by
  rw [othersFrom_other (by decide), agentStep, isrStep_enabled enabled, step]

/-- The state after the handler ran once through with an empty write FIFO. -/
def handled (s : State) : State :=
  { handlerCleared s with isr := { (handlerCleared s).isr with next := .h0 }, sig := true, turns := [] }

theorem handled_eq (s : State) : handled s = { s with
    isr := { next := .h0, e := s.ctl.error, s1 := status1Byte s.cfg.layout s.ctl, s2 := status2Byte s }
    ctl := { s.ctl with eof := false }, rdata := status2Byte s, sig := true, turns := []
    history := [.wr .isr .status1 (status1Byte s.cfg.layout s.ctl), .rd .isr .status2 (status2Byte s),
      .rd .isr .status1 (status1Byte s.cfg.layout s.ctl), .rd .isr .error s.ctl.error] ++ s.history } := by
  rw [handled, handlerCleared_eq]

/-- The handler runs once through: it posts on the empty write FIFO and clears `EOF`. -/
theorem othersFrom_handler (start : s.isr.next = .h0) (mode : s.cfg.mode = .event) (mask : s.irqMask = false)
    (wfifo : s.ctl.wfifo = []) (enabled : s.ctl.intEn2.getLsbD s.cfg.layout.wfe = true) :
    othersFrom (List.replicate 6 .isr) s = handled s := by
  have up := irqEnabled_of_wfe mode mask wfifo enabled
  have up1 : irqEnabled (handlerH0 s) = true := (irqEnabled_congr rfl rfl rfl rfl).trans up
  have up2 : irqEnabled (handlerH1 (handlerH0 s)) = true := (irqEnabled_congr rfl rfl rfl rfl).trans up1
  have up3 : irqEnabled (handlerH2 (handlerH1 (handlerH0 s))) = true := (irqEnabled_congr rfl rfl rfl rfl).trans up2
  have up4 : irqEnabled (handlerCleared s) = true := by
    rw [handlerCleared_eq]; exact irqEnabled_of_wfe mode mask wfifo enabled
  have up5 : irqEnabled (handlerH4 (handlerCleared s)) = true := by
    rw [handlerH4_eq]; exact (irqEnabled_congr rfl rfl rfl rfl).trans up4
  have at4 : handlerStep (handlerCleared s) = handlerH4 (handlerCleared s) := by
    rw [handlerStep, show (handlerCleared s).isr.next = .h4 by rw [handlerCleared_eq]]
  have at5 : handlerStep (handlerH4 (handlerCleared s)) = handlerH5 (handlerH4 (handlerCleared s)) := by
    rw [handlerStep, handlerH4_eq]
  have shown : hasBit (handlerCleared s).isr.s2 (handlerCleared s).cfg.layout.wfe = true := by
    rw [handlerCleared_eq]
    exact (hasBit_status2Byte_wfe s).trans ((wfeFlag_iff s).mpr wfifo)
  rw [List.replicate, othersFrom_isr _ up (by rw [handlerStep, start] : _ = handlerH0 s), List.replicate, othersFrom_isr (u := handlerH1 (handlerH0 s)) _ up1 rfl,
    List.replicate, othersFrom_isr (u := handlerH2 (handlerH1 (handlerH0 s))) _ up2 rfl, List.replicate, othersFrom_isr (u := handlerCleared s) _ up3 rfl,
    List.replicate, othersFrom_isr _ up4 at4, List.replicate, othersFrom_isr _ up5 at5, List.replicate, othersFrom_nil,
    handlerH5_eq, handlerH4_eq, shown, Bool.or_true, Bool.true_or]; rfl

/-! The settle delay of a frame. -/

/-- From `a` to `b` exactly these bytes went out, in this order. -/
def Sends (l : List Byte) (a b : State) : Prop := ∃ h, b.history = h ++ a.history ∧ h.reverse.filterMap sentByte = l

section
variable {l m : List Byte} {a b c : State}

theorem Sends.trans (h : Sends l a b) (k : Sends m b c) : Sends (l ++ m) a c := by
  obtain ⟨e, history, sent⟩ := h
  obtain ⟨e', history', sent'⟩ := k
  exact ⟨e' ++ e, by rw [history', history, List.append_assoc], by rw [List.reverse_append, List.filterMap_append, sent, sent']⟩

theorem Sends.silent {h : List Event} (history : b.history = h ++ a.history) (silent : ∀ x ∈ h, sentByte x = none) :
    Sends [] a b :=
  ⟨h, history, List.filterMap_eq_nil_iff.mpr fun x mem => silent x (List.mem_reverse.mp mem)⟩

end

theorem framePassed_sends (q : List Byte) (s : State) : Sends s.ctl.wfifo s (framePassed q s) := by
  refine ⟨receivedEvents q ++ sentEvents s.ctl.wfifo, (List.append_assoc ..).symm, ?_⟩
  simp [receivedEvents, sentEvents, List.filterMap_append, List.filterMap_map, Function.comp_def, sentByte]

theorem handled_sends (s : State) : Sends [] s (handled s) := by
  rw [handled_eq]
  exact ⟨_, rfl, rfl⟩

/-- The settle delay up to the end of the frame. -/
theorem settled_sends (n : Nat) (q : List Byte) (s : State) : Sends s.ctl.wfifo s (framePassed q (record (.delayUs n) s)) :=
  Sends.trans (b := record (.delayUs n) s) (.silent (h := [.delayUs n]) rfl (by simp [sentByte])) (framePassed_sends _ _)

/-- From `a` to `v` a frame sent the whole write FIFO and delivered `q`, and nobody is left to move. -/
structure Carried (a v : State) (q : List Byte) (eof : Bool) : Prop where
  quiet : Quiet v
  ctl : v.ctl = { afterFrame q a.ctl with eof := eof }
  eng : v.eng = a.eng
  cfg : v.cfg = a.cfg
  busIdle : v.busIdle = true
  irqMask : v.irqMask = a.irqMask
  results : v.results = a.results
  draws : v.draws = a.draws
  sends : Sends a.ctl.wfifo a v

section
variable {q : List Byte} (n : Nat) (run : Running s) (txen : s.ctl.txen = true) (noFrame : s.ctl.frame.active = false)
  (rfifo : s.ctl.rfifo = []) (room : q.length ≤ s.cfg.rfifoDepth)
include run txen noFrame rfifo room

/-- The frame alone. -/
theorem settle_polled (turns : s.turns = wellBehavedFrame s.ctl.wfifo.length q) :
    Carried s (delayUs n s) q true ∧ (delayUs n s).sig = s.sig ∧ (delayUs n s).isr = s.isr := by
  have settled := othersFrom_wellBehavedFrame (s := record (.delayUs n) s) [] run txen noFrame rfifo room
  rw [othersFrom_nil, List.append_nil] at settled
  have all : delayUs n s = _ := (congrArg (othersFrom · (record (.delayUs n) s)) turns).trans settled
  rw [all]
  exact ⟨⟨rfl, rfl, rfl, rfl, rfl, rfl, rfl, rfl, settled_sends n q s⟩, rfl, rfl⟩

/-- The frame, then the handler. -/
theorem settle_event (turns : s.turns = wellBehavedFrame s.ctl.wfifo.length q ++ List.replicate 6 .isr)
    (start : s.isr.next = .h0) (mode : s.cfg.mode = .event) (mask : s.irqMask = false)
    (enabled : s.ctl.intEn2.getLsbD s.cfg.layout.wfe = true) :
    Carried s (delayUs n s) q false ∧ (delayUs n s).sig = true ∧ (delayUs n s).isr.next = .h0 := by
  have settled := othersFrom_wellBehavedFrame (s := record (.delayUs n) s) (List.replicate 6 .isr) run txen noFrame rfifo room
  rw [othersFrom_handler (s := framePassed q (record (.delayUs n) s)) start mode mask rfl enabled] at settled
  have all : delayUs n s = _ := (congrArg (othersFrom · (record (.delayUs n) s)) turns).trans settled
  have sends := (settled_sends n q s).trans (handled_sends _)
  rw [List.append_nil] at sends
  rw [all]
  refine ⟨⟨?_, ?_, ?_, ?_, ?_, ?_, ?_, ?_, sends⟩, ?_, ?_⟩ <;> rw [handled_eq] <;> rfl

end

end Sys2Proof.Machine
end

section
/-! PROOF. TRANSFER under a well-behaved frame (48_controller_agent.md R214): what follows WRITE, then the three statements. -/

namespace Sys2Proof.Machine

variable {s : State}

/-! T3 to T5 by the engine alone. -/

/-- A call and its return. -/
theorem Got.call {c : CallSite} {f : State → State} {k : Controller} {h : List Event}
    (g : Got (enter c s) (f (enter c s)) k h) : Got s (Machine.call c f s) k h := by
  have back : shared (leave c (f (enter c s))) =
      { shared (f (enter c s)) with eng :=
        { (shared (f (enter c s))).eng with calls := (shared (f (enter c s))).eng.calls.tail } } := rfl
  unfold Got Did at g ⊢
  rw [Machine.call, back, g]; rfl

/-- What T3 reads of a stream, quiet. -/
structure ResponseRead (s t : State) (w f : Byte) (p : List Byte) (k : Controller) : Prop where
  got : ∃ h, Got s t k h ∧ ∀ x ∈ h, sentByte x = none
  res : t.eng.res = .ok
  bytes : t.eng.rsp.bytes = returnedBytes s.cfg s.eng.req w p
  whole : s.eng.req.commandCode ≠ s.cfg.pingCmd → s.eng.req.expectedLength ≠ 0 →
    t.eng.rsp = { bytes := p, writeChecksum := w, readChecksum := f }

theorem sentByte_of_poll {x : Event} (poll : isPoll x = true) : sentByte x = none := by
  cases x with
  | wireTx b => cases poll
  | _ => rfl

/-- READ at T3. -/
theorem readPhase_of_read {rsp : Response} {rcvd : Half} {rest : List Byte} {logs : List LogRecord}
    (reads : readsResponse s.cfg s.eng.req = true)
    (done : ReadOk rsp rcvd rest logs (enter .t3 (goto .t3 s))
      (read s.eng.req.expectedLength s.eng.req.commandCode (enter .t3 (goto .t3 s)))) :
    (∃ h, Got s (readPhase s) { s.ctl with rfifo := rest } h ∧ ∀ x ∈ h, sentByte x = none) ∧
    (readPhase s).eng.res = .ok ∧ (readPhase s).eng.rsp = rsp := by
  obtain ⟨⟨h, got, events, -⟩, res, same, -⟩ := done
  rw [readPhase_reads reads]
  refine ⟨⟨h, (Got.call (f := readOfRequest) (s := goto .t3 s) got).after_work rfl, fun x mem => ?_⟩, res, same⟩
  rcases events x mem with poll | ⟨y, -, rfl⟩
  · exact sentByte_of_poll poll
  · rfl

theorem readsResponse_of {c : Params} {r : Request} (h : r.expectedLength ≠ 0 ∨ r.commandCode = c.pingCmd) :
    readsResponse c r = true := by rw [readsResponse, Bool.or_eq_true, bne_iff_ne, beq_iff_eq]; exact h

/-- `RXLEN` of a well-formed request is 0 exactly without an expected response. -/
theorem rxlen_ne_zero {r : Request} (short : r.expectedLength.toNat ≤ 255) (some : r.expectedLength ≠ 0) : rxlen r ≠ 0 := by
  intro zero
  refine some (BitVec.eq_of_toNat_eq ?_)
  have same := congrArg BitVec.toNat zero
  rw [rxlen, BitVec.extractLsb'_toNat, Nat.shiftRight_zero] at same
  change r.expectedLength.toNat % 256 = 0 at same
  change _ = 0
  omega

/-- A frame with an expected response delivers all of it. -/
theorem wireStream_whole {c : Params} {r : Request} {w f : Byte} {p : List Byte} (formed : WellFormedRequest c r)
    (some : r.expectedLength ≠ 0) : wireStream c r w f p = w :: (p ++ [f]) :=
  if_neg fun h => rxlen_ne_zero formed.2.2 some h.2

theorem wireStream_cons (c : Params) (r : Request) (w f : Byte) (p : List Byte) :
    wireStream c r w f p = w :: (wireStream c r w f p).tail := by
  unfold wireStream; split <;> rfl

/-- T3 on the stream of a well-behaved frame, quiet. -/
theorem readPhase_wellBehaved {w f : Byte} {p : List Byte} (formed : WellFormedRequest s.cfg s.eng.req) (quiet : Quiet s)
    (ok : s.eng.res = .ok) (attempts : 1 ≤ s.cfg.rxPollAttempts) (idleAttempts : 1 ≤ s.cfg.idleAttempts)
    (idle : idleFlag s = true) (fifo : s.ctl.rfifo = wireStream s.cfg s.eng.req w f p)
    (length : p.length = s.eng.req.expectedLength.toNat) (empty : s.eng.rsp.bytes = []) :
    ResponseRead s (readPhase s) w f p { s.ctl with rfifo := unreadBytes s.cfg s.eng.req w f p } := by
  by_cases ping : s.eng.req.commandCode = s.cfg.pingCmd
  · have reads : readsResponse s.cfg s.eng.req = true := readsResponse_of (.inr ping)
    obtain ⟨got, res, rsp⟩ := readPhase_of_read reads (read_ping (s := enter .t3 (goto .t3 s)) quiet attempts idleAttempts
      idle ping (fifo.trans (wireStream_cons _ _ _ _ _)))
    rw [unreadBytes, if_pos ping]
    exact ⟨got, res, by rw [rsp, returnedBytes, if_pos ping], fun other => absurd ping other⟩
  by_cases none : s.eng.req.expectedLength = 0
  · have skips : readPhase s = goto .t3 s := readPhase_skips (by simp [readsResponse, ping, none])
    have nothing : p = [] := List.length_eq_zero_iff.mp (by rw [length, none]; rfl)
    have stays : { s.ctl with rfifo := wireStream s.cfg s.eng.req w f p } = s.ctl := by rw [← fifo]
    rw [unreadBytes, if_neg ping, if_pos none, stays, skips]
    exact ⟨⟨[], .work rfl, nofun⟩, ok, by rw [returnedBytes, if_neg ping, nothing]; exact empty, fun _ some => absurd none some⟩
  · have reads : readsResponse s.cfg s.eng.req = true := readsResponse_of (.inl none)
    rw [wireStream_whole formed none] at fifo
    obtain ⟨done, -⟩ := read_payload (s := enter .t3 (goto .t3 s)) quiet attempts idleAttempts idle ping fifo length
    obtain ⟨got, res, rsp⟩ := readPhase_of_read reads done
    rw [unreadBytes, if_neg ping, if_neg none]
    exact ⟨got, res, by rw [rsp, returnedBytes, if_neg ping], fun _ _ => rsp⟩

theorem concludeTransfer_ok (ok : s.eng.res = .ok) : concludeTransfer s = returnOk (goto .t5 s) := if_pos ((returnedOk_iff s).mpr ok)

/-- T5 after a FINISH that succeeded. -/
theorem concludeTransfer_did {n : Nat} {u : State} {k : Controller} {h : List Event} (d : Did n s u k h) (ok : u.eng.res = .ok) :
    Did n s (concludeTransfer u) k h ∧ (concludeTransfer u).eng.res = .ok := by
  rw [concludeTransfer_ok ok]
  exact ⟨d.then_work rfl, rfl⟩

theorem eofEvents_silent (l : Layout) (eof : Bool) : ∀ x ∈ .rd .eng .error 0x00 :: eofEvents l eof, sentByte x = none := by
  cases eof <;> simp [eofEvents, sentByte]

/-- T4 and T5 without an error, by the engine alone. -/
theorem transferFromT4_did (quiet : Quiet s) (none : s.ctl.error = 0) :
    ∃ h, Did 3 s (transferFromT4 s) { s.ctl with eof := false } h ∧ (∀ x ∈ h, sentByte x = Option.none) ∧
      (transferFromT4 s).eng.res = .ok := by
  obtain ⟨did, ok⟩ := finish_ok_did (s := enter .t4 (goto .t4 s)) quiet none
  have called : Did 3 s (call .t4 finish (goto .t4 s)) _ _ := (Did.call (s := goto .t4 s) did).after_work rfl
  obtain ⟨all, res⟩ := concludeTransfer_did called ok
  exact ⟨_, all, eofEvents_silent _ _, res⟩

/-- T3 to T5 on the stream of a well-behaved frame, quiet. -/
theorem afterWrite_wellBehaved {w f : Byte} {p : List Byte} (formed : WellFormedRequest s.cfg s.eng.req) (quiet : Quiet s)
    (ok : s.eng.res = .ok) (attempts : 1 ≤ s.cfg.rxPollAttempts) (idleAttempts : 1 ≤ s.cfg.idleAttempts)
    (idle : idleFlag s = true) (fifo : s.ctl.rfifo = wireStream s.cfg s.eng.req w f p)
    (length : p.length = s.eng.req.expectedLength.toNat) (empty : s.eng.rsp.bytes = []) (none : s.ctl.error = 0) :
    ResponseRead s (afterWrite s) w f p { s.ctl with eof := false, rfifo := unreadBytes s.cfg s.eng.req w f p } := by
  obtain ⟨⟨h, got, silent⟩, res, bytes, whole⟩ :=
    readPhase_wellBehaved formed quiet ok attempts idleAttempts idle fifo length empty
  obtain ⟨h', did, silent', res'⟩ := transferFromT4_did (s := readPhase s) (got.quiet quiet) (by rw [got.ctl]; exact none)
  have all := got.trans (.of_did (got.quiet quiet) did)
  rw [got.ctl] at all
  have rsp := did.rsp
  rw [afterWrite_ok ok, afterRead_ok res]
  exact ⟨⟨_, all, List.forall_mem_append.mpr ⟨silent', silent⟩⟩, res', by rw [rsp]; exact bytes,
    fun other some => rsp.trans (whole other some)⟩

/-! WRITE around a well-behaved frame. -/

/-- The controller when `TXEN` is set: the whole frame in the write FIFO. -/
def loaded (p : Params) (r : Request) (k : Controller) : Controller :=
  { k with frst := false, wfifo := frameBytes p r, txen := true }

theorem frameBytes_length_le (p : Params) (r : Request) : (frameBytes p r).length ≤ headerLen + 1 + r.writePayload.length := by
  unfold frameBytes headerLen; split <;> simp <;> omega

variable {r : Request} {rest : List Turn}

/-- W1 to the trigger of W6 from a controller ready for the frame. -/
theorem armed_clean (clean : CleanForTransfer s r) (attempts : 1 ≤ s.cfg.idleAttempts)
    (turns : s.turns = List.replicate (stepsBeforeSettle s.cfg r) .eng ++ rest) :
    (∃ n, Ran n (started r s) (armed (started r s)) (loaded s.cfg r s.ctl)) ∧ (checked (started r s)).eng.res = .ok ∧
    (armed (started r s)).turns = rest := by
  have fits : (frameBytes s.cfg r).length ≤ s.cfg.wfifoDepth := (frameBytes_length_le _ _).trans clean.room
  have empty : s.ctl.wfifo.length = 0 := by rw [clean.wfifo]; rfl
  obtain ⟨n, ran, ok, steps⟩ := armed_ran (s := started r s) clean.rst (by
    rw [show (started r s).ctl = s.ctl from rfl, empty]; exact Nat.zero_le _) attempts ((idleFlag_iff (started r s)).mpr (.inr clean.idleWire)) (.inr ⟨rest, turns⟩)
  have count : n = stepsBeforeSettle s.cfg r := steps (by
    rw [show (started r s).ctl = s.ctl from rfl, empty, Nat.zero_add]; exact fits)
  have ctl : { framed s.cfg r s.ctl with txen := true } = loaded s.cfg r s.ctl := by
    simp only [framed, withPushed, loaded, clean.wfifo, List.nil_append, List.take_of_length_le fits]
  have ran : Ran n (started r s) (armed (started r s)) (loaded s.cfg r s.ctl) := ctl ▸ ran
  refine ⟨⟨n, ran⟩, ok, ?_⟩
  obtain ⟨h, did, -⟩ := ran
  rw [did.turns, count, show (started r s).turns = s.turns from rfl, turns]
  exact List.drop_left' (List.length_replicate ..)

/-- A controller that sends at once: the frame in the write FIFO, `TXEN` set, and the platform as before TRANSFER. -/
structure FullyLoaded (r : Request) (s a : State) : Prop where
  run : Running a
  txen : a.ctl.txen = true
  noFrame : a.ctl.frame.active = false
  rfifo : a.ctl.rfifo = []
  wfifo : a.ctl.wfifo = frameBytes s.cfg r
  intEn2 : a.ctl.intEn2 = s.ctl.intEn2
  cfg : a.cfg = s.cfg
  sig : a.sig = s.sig
  irqMask : a.irqMask = s.irqMask
  isr : a.isr = s.isr

theorem fullyLoaded_of {a : State} {n : Nat} (clean : CleanForTransfer s r) (ran : Ran n (started r s) a (loaded s.cfg r s.ctl)) :
    FullyLoaded r s a := by
  obtain ⟨h, did, -⟩ := ran
  have part {α : Type} (field : Controller → α) : field a.ctl = field (loaded s.cfg r s.ctl) := congrArg field did.ctl
  exact ⟨⟨(part Controller.pd).trans clean.pd, (part Controller.rst).trans clean.rst, part Controller.frst⟩,
    part Controller.txen, (part fun k => k.frame.active).trans clean.noFrame, (part Controller.rfifo).trans clean.rfifo,
    part Controller.wfifo, part Controller.intEn2, did.cfg, did.sig, did.irqMask, did.isr⟩

/-- What WRITE leaves after a frame that delivered `q`. -/
structure Wrote (r : Request) (q : List Byte) (s u : State) : Prop where
  quiet : Quiet u
  res : u.eng.res = .ok
  ctl : ∃ eof, u.ctl = { afterFrame q { s.ctl with frst := false } with eof := eof }
  cfg : u.cfg = s.cfg
  busIdle : u.busIdle = true
  irqMask : u.irqMask = s.irqMask
  results : u.results = s.results
  draws : u.draws = s.draws
  tocnt : u.eng.tocnt = 0
  bitrate : u.eng.bitrate = s.eng.bitrate
  req : u.eng.req = r
  bytes : u.eng.rsp.bytes = []
  sends : Sends (frameBytes s.cfg r) s u

theorem takeSignal_shared (s : State) : shared (takeSignal s) = { shared s with sig := false } := rfl
theorem goto_shared (l : Label) (s : State) : shared (goto l s) = shared s := rfl
theorem enter_shared (c : CallSite) (s : State) :
    shared (enter c s) = { shared s with eng := { (shared s).eng with calls := c :: (shared s).eng.calls } } := rfl
theorem leave_shared (c : CallSite) (s : State) :
    shared (leave c s) = { shared s with eng := { (shared s).eng with calls := (shared s).eng.calls.tail } } := rfl

/-- A call that takes the signal and returns. -/
theorem returnSignal_shared (c : CallSite) (l : Label) (s : State) :
    shared (leave c (takeSignal (goto .e0 (enter c (goto l s))))) = { shared s with sig := false } := by
  rw [leave_shared, takeSignal_shared, goto_shared, enter_shared, goto_shared]; rfl

/-- W7 on the signal. -/
theorem awaitCompletion_event_did (mode : s.cfg.mode = .event) (sig : s.sig = true) :
    Did 0 { s with sig := false } (awaitCompletion s) s.ctl [] ∧ (awaitCompletion s).eng.res = .ok ∧
    (awaitCompletion s).sig = false := by
  have wait : waitComplete (txlen s.cfg s.eng.req) (enter .w7Wait (goto .w7 s)) =
      waitEvent (txlen s.cfg s.eng.req) (enter .w7Wait (goto .w7 s)) := by
    rw [waitComplete, show (enter .w7Wait (goto .w7 s)).cfg.mode = .event from mode]
  have ends : awaitCompletion s = leave .w7Wait (takeSignal (goto .e0 (enter .w7Wait (goto .w7 s)))) := by
    rw [awaitCompletion, Machine.call, wait, waitEvent_signalled (s := enter .w7Wait (goto .w7 s)) _ sig]
  rw [ends]
  exact ⟨.work (returnSignal_shared .w7Wait .w7 s), rfl, rfl⟩

/-- The trigger, the settle delay and the wait together. -/
theorem wrote_of {a v w : State} {n m : Nat} {q : List Byte} {eof : Bool} {h e : List Event}
    (before : Did n (started r s) a (loaded s.cfg r s.ctl) e) (silent : ∀ x ∈ e, sentByte x = none)
    (carried : Carried a v q eof) (did : Did m { v with sig := w.sig } w v.ctl h) (silent' : ∀ x ∈ h, sentByte x = none) :
    Wrote r q s (returnOk (putTimeouts 0 w)) where
  quiet := did.quiet carried.quiet
  res := rfl
  ctl := ⟨eof, did.ctl.trans (carried.ctl.trans (by rw [before.ctl]; rfl))⟩
  cfg := did.cfg.trans (carried.cfg.trans before.cfg)
  busIdle := did.busIdle.trans carried.busIdle
  irqMask := did.irqMask.trans (carried.irqMask.trans before.irqMask)
  results := did.results.trans (carried.results.trans before.results)
  draws := did.draws.trans (carried.draws.trans before.draws)
  tocnt := rfl
  bitrate := did.bitrate.trans ((congrArg Engine.bitrate carried.eng).trans before.bitrate)
  req := did.req.trans ((congrArg Engine.req carried.eng).trans before.req)
  bytes := congrArg Response.bytes (did.rsp.trans ((congrArg Engine.rsp carried.eng).trans before.rsp))
  sends := by
    have all := (Sends.silent (a := s) before.history silent).trans (carried.sends.trans (.silent did.history silent'))
    rw [before.ctl, List.append_nil] at all
    exact all

theorem Did.own_sig {n : Nat} {t : State} {k : Controller} {h : List Event} (d : Did n s t k h) :
    Did n { s with sig := t.sig } t k h := by rw [d.sig]; exact d

/-- WRITE whose settle delay carried a frame and whose wait succeeded. -/
theorem write_carried {n m : Nat} {q : List Byte} {eof : Bool} {h : List Event} (clean : CleanForTransfer s r)
    (arms : Ran n (started r s) (armed (started r s)) (loaded s.cfg r s.ctl)) (ready : (checked (started r s)).eng.res = .ok)
    (carried : Carried (armed (started r s)) (trigger (checked (started r s))) q eof)
    (did : Did m { trigger (checked (started r s)) with sig := (awaited (started r s)).sig } (awaited (started r s))
      (trigger (checked (started r s))).ctl h) (silent : ∀ x ∈ h, sentByte x = none) (ok : (awaited (started r s)).eng.res = .ok) :
    write (started r s) = .next (returnOk (putTimeouts 0 (awaited (started r s)))) ∧
    Wrote r q s (returnOk (putTimeouts 0 (awaited (started r s)))) := by
  have room : (started r s).ctl.wfifo.length < (started r s).cfg.wfifoDepth := by
    rw [show (started r s).ctl = s.ctl from rfl, clean.wfifo]
    exact Nat.lt_of_lt_of_le (by simp [headerLen]) clean.room
  have run := write_sent room ready ok
  rw [clearTimeouts_quiet (did.quiet carried.quiet)] at run
  obtain ⟨e, before, silent'⟩ := arms
  exact ⟨run, wrote_of before silent' carried did silent⟩

/-! TRANSFER. -/

/-- What TRANSFER leaves under a well-behaved frame, and what it sent. -/
structure Transferred (r : Request) (w f : Byte) (p : List Byte) (s u t : State) : Prop where
  done : TransferDone s r w f p t
  sends : Sends (frameBytes s.cfg r) s t
  sig : t.sig = u.sig
  isr : t.isr = u.isr
  whole : r.commandCode ≠ s.cfg.pingCmd → r.expectedLength ≠ 0 →
    t.eng.rsp = { bytes := p, writeChecksum := w, readChecksum := f }

/-- The end of TRANSFER after a read phase and a FINISH that succeeded. -/
theorem transferred_of {w f : Byte} {p : List Byte} {u v : State} (clean : CleanForTransfer s r)
    (wrote : Wrote r (wireStream s.cfg r w f p) s u)
    (read : ResponseRead u v w f p { u.ctl with eof := false, rfifo := unreadBytes s.cfg r w f p }) :
    Transferred r w f p s u (endOperation .transfer v) := by
  obtain ⟨⟨h, got, silent⟩, res, bytes, whole⟩ := read
  obtain ⟨eof, ctl⟩ := wrote.ctl
  have controller : v.ctl = { afterFrame (unreadBytes s.cfg r w f p) { s.ctl with frst := false } with eof := false } := by
    rw [got.ctl, ctl]; rfl
  have cfg : v.cfg = s.cfg := got.cfg.trans wrote.cfg
  rw [wrote.cfg, wrote.req] at bytes whole
  have sends := wrote.sends.trans (.silent got.history silent)
  rw [List.append_nil] at sends
  rw [endTransfer_ok res]
  refine ⟨?_, sends, got.did.sig, got.did.isr, whole⟩
  exact {
    res := res
    response := bytes
    results := by
      rw [← bytes, cfg, got.results, wrote.results]; rfl
    rfifo := congrArg Controller.rfifo controller
    wfifo := congrArg Controller.wfifo controller
    eof := congrArg Controller.eof controller
    error := (congrArg Controller.error controller).trans clean.error
    txen := congrArg Controller.txen controller
    pd := (congrArg Controller.pd controller).trans clean.pd
    rst := (congrArg Controller.rst controller).trans clean.rst
    frst := congrArg Controller.frst controller
    btLow := (congrArg Controller.btLow controller :)
    btHigh := (congrArg Controller.btHigh controller :)
    intEn1 := (congrArg Controller.intEn1 controller :)
    intEn2 := (congrArg Controller.intEn2 controller :)
    tocnt := got.tocnt.trans wrote.tocnt
    bitrate := got.bitrate.trans wrote.bitrate
    req := got.req.trans wrote.req
    phase := rfl
    busIdle := got.busIdle.trans wrote.busIdle
    irqMask := got.did.irqMask.trans wrote.irqMask
    cfg := cfg
    draws := got.draws.trans wrote.draws }

variable {w f : Byte} {p : List Byte}

/-- TRANSFER after a WRITE that carried the frame. -/
theorem exec_transfer_wrote {u : State} (idle : s.eng.phase = .idle) (formed : WellFormedRequest s.cfg r)
    (clean : CleanForTransfer s r) (attempts : 1 ≤ s.cfg.rxPollAttempts) (idleAttempts : 1 ≤ s.cfg.idleAttempts)
    (length : p.length = r.expectedLength.toNat) (written : write (started r s) = .next u)
    (wrote : Wrote r (wireStream s.cfg r w f p) s u) :
    ∃ t, exec (.transfer r) s = .next t ∧ Transferred r w f p s u t := by
  have back : Wrote r (wireStream s.cfg r w f p) s (leave .t2 u) := { wrote with }
  obtain ⟨eof, ctl⟩ := back.ctl
  have read := afterWrite_wellBehaved (s := leave .t2 u) (w := w) (f := f) (p := p)
  rw [back.cfg, back.req] at read
  have read := read formed back.quiet back.res attempts idleAttempts ((idleFlag_iff _).mpr (.inr back.busIdle)) (by rw [ctl]; rfl)
    length back.bytes (by rw [ctl]; exact clean.error)
  exact ⟨_, exec_transfer idle formed written, { transferred_of clean back read with }⟩

/-- WRITE under a well-behaved frame, POLLED. -/
theorem write_polled {q : List Byte} (mode : s.cfg.mode = .polled) (clean : CleanForTransfer s r) (idleAttempts : 1 ≤ s.cfg.idleAttempts)
    (attempts : 1 ≤ s.cfg.txPollAttempts) (room : q.length ≤ s.cfg.rfifoDepth)
    (turns : s.turns = List.replicate (stepsBeforeSettle s.cfg r) .eng ++
      wellBehavedFrame (frameBytes s.cfg r).length q) :
    ∃ u, write (started r s) = .next u ∧ Wrote r q s u ∧ u.sig = s.sig ∧ u.isr = s.isr := by
  obtain ⟨⟨n, ran⟩, ready, left⟩ := armed_clean clean idleAttempts turns
  have full := fullyLoaded_of clean ran
  obtain ⟨carried, sig, isr⟩ := settle_polled (armed (started r s)).cfg.settleUs full.run full.txen full.noFrame full.rfifo
    (full.cfg ▸ room) (full.wfifo ▸ left)
  rw [← trigger_checked] at carried sig isr
  have params := carried.cfg.trans full.cfg
  obtain ⟨did, ok⟩ := awaitCompletion_polled_did (s := trigger (checked (started r s))) (by rw [params]; exact mode)
    (by rw [carried.ctl]) (by rw [params]; exact attempts) (alone_of_quiet _ carried.quiet)
  obtain ⟨run, wrote⟩ := write_carried clean ran ready carried did.own_sig (by simp [sentByte]) ok
  exact ⟨_, run, wrote, did.sig.trans (sig.trans full.sig), did.isr.trans (isr.trans full.isr)⟩

/-- WRITE under a well-behaved frame, in EVENT mode. -/
theorem write_event {q : List Byte} (mode : s.cfg.mode = .event) (clean : CleanForTransfer s r) (idleAttempts : 1 ≤ s.cfg.idleAttempts)
    (mask : s.irqMask = false) (start : s.isr.next = .h0) (enabled : s.ctl.intEn2.getLsbD s.cfg.layout.wfe = true)
    (room : q.length ≤ s.cfg.rfifoDepth)
    (turns : s.turns = List.replicate (stepsBeforeSettle s.cfg r) .eng ++
      wellBehavedFrame (frameBytes s.cfg r).length q ++ List.replicate 6 .isr) :
    ∃ u, write (started r s) = .next u ∧ Wrote r q s u ∧ u.sig = false ∧ u.isr.next = .h0 := by
  rw [List.append_assoc] at turns
  obtain ⟨⟨n, ran⟩, ready, left⟩ := armed_clean clean idleAttempts turns
  have full := fullyLoaded_of clean ran
  obtain ⟨carried, sig, isr⟩ := settle_event (armed (started r s)).cfg.settleUs full.run full.txen full.noFrame full.rfifo
    (full.cfg ▸ room) (full.wfifo ▸ left) (full.isr ▸ start) (full.cfg ▸ mode) (full.irqMask ▸ mask)
    (by rw [full.cfg, full.intEn2]; exact enabled)
  rw [← trigger_checked] at carried sig isr
  obtain ⟨did, ok, taken⟩ := awaitCompletion_event_did (s := trigger (checked (started r s)))
    (by rw [carried.cfg, full.cfg]; exact mode) sig
  rw [← taken] at did
  obtain ⟨run, wrote⟩ := write_carried clean ran ready carried did nofun ok
  exact ⟨_, run, wrote, taken, (congrArg (fun i => i.next) did.isr :).trans isr⟩

/-- TRANSFER under a well-behaved frame, POLLED. -/
theorem transfer_polled (idle : s.eng.phase = .idle) (formed : WellFormedRequest s.cfg r) (mode : s.cfg.mode = .polled)
    (idleAttempts : 1 ≤ s.cfg.idleAttempts) (txAttempts : 1 ≤ s.cfg.txPollAttempts) (attempts : 1 ≤ s.cfg.rxPollAttempts)
    (clean : CleanForTransfer s r) (length : p.length = r.expectedLength.toNat)
    (room : (wireStream s.cfg r w f p).length ≤ s.cfg.rfifoDepth)
    (turns : s.turns = List.replicate (stepsBeforeSettle s.cfg r) .eng ++
      wellBehavedFrame (frameBytes s.cfg r).length (wireStream s.cfg r w f p)) :
    ∃ t, exec (.transfer r) s = .next t ∧ Transferred r w f p s s t := by
  obtain ⟨u, written, wrote, sig, isr⟩ := write_polled mode clean idleAttempts txAttempts room turns
  obtain ⟨t, run, sent⟩ := exec_transfer_wrote idle formed clean attempts idleAttempts length written wrote
  exact ⟨t, run, { sent with sig := sent.sig.trans sig, isr := sent.isr.trans isr }⟩

/-- Settles O59: `transfer_polled`. -/
theorem wellBehavedTransferWithoutPayload : Obligations.WellBehavedTransferWithoutPayload := by
  intro r s w f p idle formed mode idleAttempts txAttempts attempts clean _ length room turns
  obtain ⟨t, run, sent⟩ := transfer_polled idle formed mode idleAttempts txAttempts attempts clean length room turns
  obtain ⟨h, history, bytes⟩ := sent.sends
  exact ⟨t, h, run, history, sent.done, bytes, sent.sig, sent.isr⟩

/-- Settles O44: `transfer_polled` on a request whose whole stream is read. -/
theorem wellBehavedTransferReturnsThePayload : Obligations.WellBehavedTransferReturnsThePayload := by
  intro r s w f p idle formed mode idleAttempts txAttempts attempts pd rst wire eof error txen noFrame wfifo rfifo room other some
    length fits turns
  have stream : wireStream s.cfg r w f p = w :: (p ++ [f]) := wireStream_whole formed some
  obtain ⟨t, run, sent⟩ := transfer_polled (w := w) (f := f) idle formed mode idleAttempts txAttempts attempts
    { pd, rst, idleWire := wire, eof, error, txen, noFrame, wfifo, rfifo, room } length
    (by rw [stream, List.length_cons, List.length_append]; exact fits) (by rw [stream]; exact turns)
  obtain ⟨h, history, bytes⟩ := sent.sends
  have done := sent.done
  have returned : returnedBytes s.cfg r w p = p := if_neg other
  have unread : unreadBytes s.cfg r w f p = [] := by rw [unreadBytes, if_neg other, if_neg some]
  exact ⟨t, h, run, history, done.res, sent.whole other some, returned ▸ done.results, bytes, done.tocnt, done.eof, done.error,
    done.txen, done.wfifo, done.rfifo.trans unread, done.pd, done.rst, done.frst, done.btLow, done.btHigh, done.intEn1,
    done.intEn2, done.bitrate, done.req, done.busIdle, sent.sig, done.irqMask, sent.isr, done.cfg, done.draws, done.phase⟩

/-- Settles O60: WRITE on the post of the handler, then the same end. -/
theorem wellBehavedTransferInEventMode : Obligations.WellBehavedTransferInEventMode := by
  intro r s w f p idle formed mode idleAttempts attempts clean mask start enabled length room turns
  obtain ⟨u, written, wrote, sig, isr⟩ := write_event mode clean idleAttempts mask start enabled room turns
  obtain ⟨t, run, sent⟩ := exec_transfer_wrote idle formed clean attempts idleAttempts length written wrote
  obtain ⟨h, history, bytes⟩ := sent.sends
  exact ⟨t, h, run, history, sent.done, bytes, sent.sig.trans sig, (congrArg (fun i => i.next) sent.isr :).trans isr⟩

end Sys2Proof.Machine
end

section
/-! PROOF. An operation in progress (10_state.md R19, 60_exceptions.md R236): the step at the engine's turn with nothing presented is the rest of the operation, and then of each caller. -/

namespace Sys2Proof.Machine

variable {s : State}

/-- The engine's turn at a step label with nothing presented. -/
theorem step_resumes {ts : List Turn} (l : Label) (port : s.port = none) :
    step { s with turns := .eng :: ts, eng := { s.eng with phase := .at l } } =
      andThen (runFrom l (goto l { s with turns := ts })) fun t =>
        andThen (unwind s.eng.calls t) fun u => .next (endOperation (outermost s.eng.calls l) u) := by
  have run : resume (goto l { s with turns := ts }) = _ := rfl
  exact (step_eng rfl).trans ((engineStep_resume (s := goto l { s with turns := ts }) port).trans run)

/-- With no call under way, the rest of the operation from its first label is the operation. -/
theorem resume_first {op : EngOp} {f : State → Host.Outcome State Fault Refusal} {l : Label} (own : l.op = op)
    (first : runFrom l (goto l s) = f (toIdle s)) :
    (andThen (runFrom l (goto l s)) fun t =>
      andThen (unwind [] t) fun u => .next (endOperation (outermost [] l) u)) = runOperation op f (toIdle s) := by
  rw [first, runOperation_idle rfl, ← own]; rfl

theorem waitIdle_goto (l : Label) (s : State) : waitIdle (goto l s) = waitIdle (toIdle s) :=
  congrArg (idleLoop s.cfg.idleAttempts) (rfl : loadIdleAttempts (goto l s) = loadIdleAttempts (toIdle s))

theorem waitPoll_goto (l : Label) (s : State) : waitPoll (goto l s) = waitPoll (toIdle s) :=
  congrArg (pollLoop s.cfg.txPollAttempts) (rfl : loadTxAttempts (goto l s) = loadTxAttempts (toIdle s))

theorem write_goto (l : Label) (s : State) : write (goto l s) = write (toIdle s) :=
  congrArg (fun a => writeAfterCheck (loadStatus .status2 a)) (rfl : goto .w1 (goto l s) = goto .w1 (toIdle s))

theorem finish_goto (l : Label) (s : State) : finish (goto l s) = finish (toIdle s) :=
  congrArg (fun a => judge (readErrors (clearEof (loadStatus .status1 a)))) (rfl : goto .f0 (goto l s) = goto .f0 (toIdle s))

theorem readOfRequest_goto (l : Label) (s : State) : readOfRequest (goto l s) = readOfRequest (toIdle s) :=
  congrArg (fun a => afterSlots s.eng.req.expectedLength (readSlots s.eng.req.commandCode s.eng.req.expectedLength a))
    (rfl : startRead (goto l s) = startRead (toIdle s))

theorem waitEventOfRequest_goto (l : Label) (s : State) : waitEventOfRequest (goto l s) = waitEventOfRequest (toIdle s) := by
  have same : goto .e0 (goto l s) = goto .e0 (toIdle s) := rfl
  rw [waitEventOfRequest, waitEventOfRequest, waitEvent, waitEvent, same]; rfl

theorem recoverFifo_goto (l : Label) (s : State) : recoverFifo (goto l s) = recoverFifo (toIdle s) :=
  congrArg (setControl Layout.frst) (rfl : goto .v0 (goto l s) = goto .v0 (toIdle s))

theorem recoverFull_goto (l : Label) (inIsr : Bool) (s : State) : recoverFull inIsr (goto l s) = recoverFull inIsr (toIdle s) :=
  congrArg (fun a => recoverFromV2 inIsr (store .control (bit s.cfg.layout.pd ||| bit s.cfg.layout.rst) a))
    (rfl : goto .v1 (goto l s) = goto .v1 (toIdle s))

theorem configure_goto (br : Word) (l : Label) (s : State) : configure br (goto l s) = configure br (toIdle s) := by
  have same : latchOperand br (goto l s) = latchOperand br (toIdle s) := rfl
  rw [configure, configure, same]; rfl

theorem enable_goto (l : Label) (s : State) : enable (goto l s) = enable (toIdle s) :=
  congrArg (fun a => unmaskLine (clearControl Layout.pd a)) (rfl : goto .n0 (goto l s) = goto .n0 (toIdle s))

theorem disable_goto (l : Label) (s : State) : disable (goto l s) = disable (toIdle s) :=
  congrArg (fun a => disableAfterCheck (call .b0 waitIdle a)) (rfl : goto .b0 (goto l s) = goto .b0 (toIdle s))

theorem transfer_goto (r : Request) (l : Label) (s : State) : transfer r (goto l s) = transfer r (toIdle s) := by
  have same : goto .t0 (goto l s) = goto .t0 (toIdle s) := rfl
  rw [transfer, transfer, same]; rfl

/-! The rest of an operation ends when the bitrates are admitted. -/

/-- The bitrate of the record is an admitted one. -/
def BitrateValid (s : State) : Prop := validBitrate s.cfg s.eng.bitrate = true

theorem Path.bitrateValid {K : List Kind} {t : State} (h : Path K s t) : BitrateValid s → BitrateValid t := by
  refine h.lift (R := fun a b => BitrateValid a → BitrateValid b) (fun _ => id) (fun _ _ _ h k v => k (h v))
    (fun a b same v => ?_) (fun m a v => ?_) (fun _ _ v => v) (fun k mem a b does v => ?_) (fun _ _ v => v) (fun _ _ v => v)
  · rw [BitrateValid, show b.cfg = a.cfg from (congrArg State.cfg same :), (shared_kept (K := []) same).bitrate nofun]
    exact v
  · rw [BitrateValid, (agentStep_same m a).cfg, (agentStep_same m a).eng]; exact v
  · by_cases stores : k = .bitrate
    · subst stores
      obtain ⟨br, valid, rfl⟩ := does
      exact valid
    · have kept := does_kept (List.mem_singleton.mpr rfl) does
      rw [BitrateValid, (Path.does (K := [k]) (List.mem_singleton.mpr rfl) does).cfg,
        kept.bitrate fun mem => stores (List.mem_singleton.mp mem).symm]
      exact v

/-- With an admitted bitrate nothing stops but an operand that is not admitted. -/
theorem StopsOnly.ends {p q : Prop} {r : Host.Outcome State Fault Refusal} (h : StopsOnly p q r) (noFault : ¬ p) (noRefusal : ¬ q) :
    ∃ t, r = .next t := by
  cases h with
  | next t => exact ⟨t, rfl⟩
  | fault c => exact absurd c noFault
  | refused x c => exact absurd c noRefusal

theorem BitrateValid.ne_zero (v : BitrateValid s) : s.eng.bitrate ≠ 0 := ((validBitrate_iff _ _).mp v).1

theorem BitrateValid.ends {r : Host.Outcome State Fault Refusal} (v : BitrateValid s)
    (h : StopsOnly (EscalatesWithoutBitrate s) (¬ BitrateKept s) r) : ∃ t, r = .next t :=
  h.ends (fun c => v.ne_zero c.1) fun c => c (.inr v)

theorem writeFromW5_ends (v : BitrateValid s) : ∃ t, writeFromW5 s = .next t := v.ends (writeFromW5_stops s)
theorem writeFromW7_ends (v : BitrateValid s) : ∃ t, writeFromW7 s = .next t := v.ends (writeFromW7_stops s)
theorem reconfigure_ends (v : BitrateValid s) : ∃ t, reconfigure s = .next t :=
  (reconfigure_stops s).ends v.ne_zero fun c => c (.inr v)

theorem transfer_ends {r : Request} (v : BitrateValid s) (formed : WellFormedRequest s.cfg r) : ∃ t, transfer r s = .next t :=
  (transfer_stops r s).ends (fun c => v.ne_zero c.1) fun c =>
    c.elim (fun c => c (.inr v)) fun c => c ((requestOk_iff _ _).mpr formed)

theorem transferFromT2_ends (v : BitrateValid s) : ∃ t, transferFromT2 s = .next t := by
  obtain ⟨t, run⟩ := BitrateValid.ends (s := enter .t2 (goto .t2 s)) v (write_stops _)
  rw [transferFromT2, callOrStop, run]
  exact ⟨_, rfl⟩

theorem reapplyBitrate_ends (v : BitrateValid s) : ∃ t, reapplyBitrate s = .next t := by
  obtain ⟨t, run⟩ := (configure_stops s.eng.bitrate (enter .v5 (goto .v5 s))).ends id fun c => c v
  rw [reapplyBitrate, callOrStop]
  exact ⟨leave .v5 t, congrArg (fun r => andThen r fun t => .next (leave .v5 t)) run⟩

/-- From any label. -/
theorem runFrom_ends (l : Label) (v : BitrateValid s) (operand : OperandValid s)
    (formed : l = .t0 → WellFormedRequest s.cfg s.eng.req) : ∃ t, runFrom l s = .next t := by
  cases l with
  | c0 => exact (configure_stops _ s).ends id fun c => c operand
  | w1 => exact v.ends (write_stops s)
  | w2 => exact writeFromW5_ends (((clearPendingReset_path s).mono (L := writeKinds) (by decide)).trans
      (((pushHeader_path _).trans (pushBody_path _)).mono (by decide)) |>.bitrateValid v)
  | w3 => exact writeFromW5_ends (((pushHeader_path s).trans (pushBody_path _)).bitrateValid v)
  | w4 => exact writeFromW5_ends ((pushBody_path s).bitrateValid v)
  | w5 => exact writeFromW5_ends v
  | w6 => exact writeFromW7_ends ((trigger_path s).bitrateValid v)
  | w7 => exact writeFromW7_ends v
  | v1 => exact recoverFull_ends _ v
  | v2 => exact reconfigure_ends ((releaseReset_path _).bitrateValid ((holdReset_path _ s).bitrateValid v))
  | v3 => exact reconfigure_ends ((releaseReset_path s).bitrateValid v)
  | v4 => exact reconfigure_ends v
  | v5 => exact reapplyBitrate_ends v
  | t0 => exact transfer_ends v (formed rfl)
  | t1 => exact transferFromT2_ends (s := latchRequest s.eng.req s) v
  | t2 => exact transferFromT2_ends v
  | _ => exact ⟨_, rfl⟩

/-- The rest of a caller. -/
theorem afterCall_ends (c : CallSite) (v : BitrateValid s) : ∃ t, afterCall c s = .next t := by
  cases c with
  | w5 =>
    change ∃ t, transmit s = .next t
    unfold transmit; split
    · exact writeFromW7_ends ((trigger_path s).bitrateValid v)
    · exact ⟨_, rfl⟩
  | w7Wait =>
    change ∃ t, concludeWrite s = .next t
    unfold concludeWrite; split
    · exact ⟨_, rfl⟩
    · exact v.ends (timedOut_stops s)
  | _ => exact ⟨_, rfl⟩

/-- The rest of all callers. -/
theorem unwind_ends (calls : List CallSite) (v : BitrateValid s) : ∃ t, unwind calls s = .next t ∧ t.cfg = s.cfg := by
  induction calls generalizing s with
  | nil => exact ⟨s, rfl, rfl⟩
  | cons c outer ih =>
    obtain ⟨t, run⟩ := afterCall_ends (s := leave c s) c v
    have path := afterCall_leads c _ t run
    obtain ⟨u, rest, cfg⟩ := ih (path.bitrateValid v)
    exact ⟨u, by rw [unwind_cons, run]; exact rest, cfg.trans path.cfg⟩

/-- From any label, with any calls under way. -/
theorem resumed_ends (l : Label) (calls : List CallSite) (v : BitrateValid s) (operand : OperandValid s)
    (formed : l = .t0 → WellFormedRequest s.cfg s.eng.req) :
    ∃ t, (andThen (runFrom l s) fun t => andThen (unwind calls t) fun u => .next (endOperation (outermost calls l) u)) = .next t ∧
      t.eng.phase = .idle ∧ t.cfg = s.cfg := by
  obtain ⟨t, run⟩ := runFrom_ends l v operand formed
  have path := runFrom_leads l operand t run
  obtain ⟨u, rest, cfg⟩ := unwind_ends calls (path.bitrateValid v)
  obtain ⟨-, outside, -⟩ := endOperation_outside (outermost calls l) u
  refine ⟨endOperation (outermost calls l) u, ?_, endOperation_phase _ u, outside.trans (cfg.trans path.cfg)⟩
  rw [run, andThen_ok, rest, andThen_ok]

/-- I5 with no attempt left. -/
theorem runFrom_i5_usedUp (used : s.eng.n = 0) :
    runFrom .i5 (goto .i5 s) = .next (raiseErr .busBusy (goto .i5 (idleTest (goto .i5 s)))) := by
  change Host.Outcome.next (idleLoop s.eng.n (idleTest (goto .i5 s))) = _
  rw [used]; rfl

/-- A used-up poll loop inside WRITE inside TRANSFER. -/
theorem usedUp_unwinds (l : Label) (s : State) :
    (andThen (unwind [.w5, .t2] (raiseErr .busBusy s)) fun u => .next (endOperation (outermost [.w5, .t2] l) u)) =
      .next (endOperation .transfer (leave .t2 (leave .w5 (raiseErr .busBusy s)))) := by
  have busy : transmit (leave .w5 (raiseErr .busBusy s)) = .next (leave .w5 (raiseErr .busBusy s)) := transmit_busy rfl
  have ended : afterWrite (leave .t2 (leave .w5 (raiseErr .busBusy s))) = leave .t2 (leave .w5 (raiseErr .busBusy s)) :=
    afterWrite_failed (k := .busBusy) rfl
  rw [unwind_cons, afterCall, busy, andThen_ok, unwind_cons, afterCall, ended]; rfl

theorem usedUp_ends (s : State) :
    let t := endOperation .transfer (leave .t2 (leave .w5 (raiseErr .busBusy s)))
    t.eng.res = .err .busBusy ∧ t.eng.phase = .idle ∧ t.eng.calls = s.eng.calls.tail.tail ∧
    t.results = s.results ++ [s.cfg.errCode.busBusy] ∧ t.eng.tocnt = s.eng.tocnt ∧ t.ctl = s.ctl ∧ t.history = s.history := by
  rw [endTransfer_failed (k := .busBusy) rfl]
  exact ⟨rfl, rfl, rfl, rfl, rfl, rfl, rfl⟩

/-- Which label READ stands at does not matter for what follows. -/
theorem resume_read {a b : State} {l m : Label} (calls : List CallSite) (own : l.op = m.op) (same : runFrom l a = runFrom m b) :
    (andThen (runFrom l a) fun t => andThen (unwind calls t) fun u => .next (endOperation (outermost calls l) u)) =
      andThen (runFrom m b) fun t => andThen (unwind calls t) fun u => .next (endOperation (outermost calls m) u) := by
  have outer : outermost calls l = outermost calls m := by
    cases calls with
    | nil => exact own
    | cons => rfl
  rw [same, outer]

theorem readFromD7_goto (len : Half) (l m : Label) (s : State) : readFromD7 len (goto l s) = readFromD7 len (goto m s) := by
  have same : checkLength len (goto l s) = checkLength len (goto m s) := rfl
  rw [readFromD7, same]; rfl

/-- D1 with a slot left goes on at D2. -/
theorem readFromD1_more (more : s.eng.i ≤ s.eng.req.expectedLength.toNat + 1) :
    runFrom .d1 (goto .d1 s) = runFrom .d2 (goto .d2 s) := by
  have slot : awaitSlot (goto .d1 s) = awaitSlot (goto .d2 s) :=
    congrArg (slotWait s.cfg.rxPollAttempts) (rfl : loadRxAttempts (goto .d1 s) = loadRxAttempts (goto .d2 s))
  have left : (goto .d1 s).eng.i < slotCount (goto .d1 s).eng.req.expectedLength := Nat.lt_succ_of_le more
  change Host.Outcome.next (readFromD1 (goto .d1 s)) = .next (readAfterWait (awaitSlot (goto .d2 s)))
  rw [readFromD1, if_pos left, slot]

/-- D1 after the last slot goes on at D7. -/
theorem readFromD1_done (done : s.eng.req.expectedLength.toNat + 1 < s.eng.i) :
    runFrom .d1 (goto .d1 s) = runFrom .d7 (goto .d7 s) := by
  have none : ¬ (goto .d1 s).eng.i < slotCount (goto .d1 s).eng.req.expectedLength := Nat.not_lt.mpr done
  change Host.Outcome.next (readFromD1 (goto .d1 s)) = .next (readFromD7 s.eng.req.expectedLength (goto .d7 s))
  rw [readFromD1, if_neg none, ← readFromD7_goto _ .d1]; rfl

/-- An operation of the engine at an idle engine, from its first label. -/
theorem step_first {i : Instr} {op : EngOp} {f : State → Host.Outcome State Fault Refusal} {ts : List Turn} (l : Label)
    (port : s.port = none) (none : s.eng.calls = []) (run : ∀ a, exec i a = runOperation op f a) (own : l.op = op)
    (first : runFrom l (goto l { s with turns := ts }) = f (toIdle { s with turns := ts })) :
    step { s with turns := .eng :: ts, eng := { s.eng with phase := .at l } } =
      exec i { s with turns := ts, eng := { s.eng with phase := .idle } } := by
  rw [step_resumes l port, none, resume_first own first, run]; rfl

/-- The same of an operation whose body always ends. -/
theorem step_first_total {i : Instr} {op : EngOp} {body : State → State} {ts : List Turn} (l : Label)
    (port : s.port = none) (none : s.eng.calls = []) (run : ∀ a, exec i a = runOperation op (fun t => .next (body t)) a)
    (own : l.op = op) (whole : ∀ a, runFrom l a = .next (body a))
    (first : body (goto l { s with turns := ts }) = body (toIdle { s with turns := ts })) :
    step { s with turns := .eng :: ts, eng := { s.eng with phase := .at l } } =
      exec i { s with turns := ts, eng := { s.eng with phase := .idle } } :=
  step_first (f := fun t => .next (body t)) l port none run own ((whole _).trans (congrArg _ first))

/-- A full reset that HOST called is told the mode HOST runs in (R177). -/
theorem callerInIsr_of_noCalls (none : s.eng.calls = []) : callerInIsr s = s.inIsr := by
  rw [callerInIsr, none]; exact Bool.and_true _

/-- Settles O58: `step_resumes`, then each clause by what `runFrom` and `unwind` do from its label. -/
theorem operationInProgressGoesOn : Obligations.OperationInProgressGoesOn := by
  intro s ts port standing resting
  have resumes (l : Label) := step_resumes (ts := ts) l port
  refine ⟨fun none => ⟨?_, ?_, ?_, ?_, ?_, ?_, ?_, ?_, ?_, ?_, ?_, ?_⟩, fun l kept operand formed => ?_, fun calls used => ?_,
    fun zero => ?_, fun more => ?_, fun done => ?_⟩
  · exact step_first .c0 port none (fun _ => rfl) rfl (configure_goto _ _ _)
  · exact step_first_total .n0 port none (fun _ => rfl) rfl (fun _ => rfl) (enable_goto _ _)
  · exact step_first_total .b0 port none (fun _ => rfl) rfl (fun _ => rfl) (disable_goto _ _)
  · exact step_first .t0 port none (fun _ => rfl) rfl (transfer_goto _ _ _)
  · exact step_first_total .i0 port none (fun _ => rfl) rfl (fun _ => rfl) (waitIdle_goto _ _)
  · exact step_first .w1 port none (fun _ => rfl) rfl (write_goto _ _)
  · exact step_first_total .p0 port none (fun _ => rfl) rfl (fun _ => rfl) (waitPoll_goto _ _)
  · exact step_first_total .e0 port none (fun _ => rfl) rfl (fun _ => rfl) (waitEventOfRequest_goto _ _)
  · exact step_first_total .d0 port none (fun _ => rfl) rfl (fun _ => rfl) (readOfRequest_goto _ _)
  · exact step_first_total .f0 port none (fun _ => rfl) rfl (fun _ => rfl) (finish_goto _ _)
  · exact step_first_total .v0 port none (fun _ => rfl) rfl (fun _ => rfl) (recoverFifo_goto _ _)
  · refine step_first .v1 port none (fun _ => rfl) rfl ?_
    exact (recoverFull_goto _ _ _).trans
      (congrArg (recoverFull · _) (callerInIsr_of_noCalls (s := goto .v1 { s with turns := ts }) none))
  · obtain ⟨t, run, phase, cfg⟩ := resumed_ends (s := goto l { s with turns := ts }) l s.eng.calls
      ((validBitrate_iff _ _).mpr kept) ((validBitrate_iff _ _).mpr operand) formed
    exact ⟨t, (resumes l).trans run, phase, cfg⟩
  · have run := resumes .i5
    rw [runFrom_i5_usedUp (s := { s with turns := ts }) used, calls, andThen_ok, usedUp_unwinds] at run
    obtain ⟨res, phase, none, results, tocnt, ctl, history⟩ :=
      usedUp_ends (goto .i5 (idleTest (goto .i5 { s with turns := ts })))
    exact ⟨_, run, res, phase, none.trans (congrArg (fun l => l.tail.tail) calls), results, tocnt, ctl, history⟩
  · exact (resumes .v4).trans (congrArg (fun r => andThen r _) (reconfigure_noBitrate (s := goto .v4 { s with turns := ts }) zero))
  · rw [show step (standing .d1) = _ from resumes .d1, show step (standing .d2) = _ from resumes .d2]
    exact resume_read _ rfl (readFromD1_more more)
  · rw [show step (standing .d1) = _ from resumes .d1, show step (standing .d7) = _ from resumes .d7]
    exact resume_read _ rfl (readFromD1_done done)

end Sys2Proof.Machine
end
